-- ==== Sys2Proof/Word.lean ====
section
/-!
DEFINITION. The word types: a byte (00_scope.md R16) and the 16-bit frame header H (30_encoding.md R74).
-/

namespace Sys2Proof

/-- A byte, 0x00 to 0xFF (R16). -/
abbrev Byte := BitVec 8

/-- The header `H = F[0] · 256 + F[1]` of a frame (R74). -/
abbrev Header := BitVec 16

end Sys2Proof
end

