-- ==== Sys2Proof/Syntax.lean ====
section
/-!
DEFINITION. The instructions: one constructor per row of spec/opcode_table.json (30_encoding.md R75, R76; FEED R91;
RESET R161), and the table's three encodings.
-/

namespace Sys2Proof

/-- A row of the opcode table with its operands. The six reserved rows carry the whole `TYPE` byte, which WellFormed
bounds to the row's range; the payload of a frame is not an operand here but is read from the latch `F` (R78 to R82). -/
inductive Instr where
  /-- NOOP, `TYPE = 0x00` (R112) -/
  | noop
  /-- TOGGLE, `TYPE = 0x01` (R113) -/
  | toggle
  /-- RELAY_MSG, `TYPE = 0x02` (R115) -/
  | relayMsg
  /-- RELAY_RAW, `TYPE = 0x03` (R116) -/
  | relayRaw
  /-- RELAY_BOOTPAGE, `TYPE = 0x04` (R121) -/
  | relayBootpage
  /-- RELAY_GPS, `TYPE = 0x05` (R124) -/
  | relayGps
  /-- RESERVED_06_07 (R76, R130) -/
  | reserved0607 (t : Byte)
  /-- RESERVED_08_0F (R76, R130) -/
  | reserved080F (t : Byte)
  /-- RESERVED_10_1F (R76, R130) -/
  | reserved101F (t : Byte)
  /-- RESERVED_20_3F (R76, R130) -/
  | reserved203F (t : Byte)
  /-- RESERVED_40_7F (R76, R130) -/
  | reserved407F (t : Byte)
  /-- RESERVED_80_FF (R76, R130) -/
  | reserved80FF (t : Byte)
  /-- FEED: the event `Arrive(b)` (R56, R91, R145, R147) -/
  | feed (b : Byte)
  /-- RESET: the environment's reset input (R61, R161) -/
  | reset
  deriving DecidableEq, Repr

/-- The table's formats: which of the CORE's inputs an encoding stands on. -/
inductive Format where
  /-- FRAME_HDR16: the header of a frame in the latch, two bytes, `F[0]` first -/
  | frameHdr16
  /-- RX_BYTE: one byte of the inbound channel (R56) -/
  | rxByte
  /-- RESET_INPUT: the reset input, one bit, here a byte 0 or 1 (R61) -/
  | resetInput
  deriving DecidableEq, Repr

/-- An encoded instruction: its format and its bytes in arrival order. -/
structure Code where
  format : Format
  bytes  : List Byte
  deriving DecidableEq, Repr

end Sys2Proof
end

