-- ==== Sys2Proof/WellFormed.lean ====
section
/-!
DEFINITION. Well-formed instructions: a reserved row's `TYPE` lies in the row's own range (30_encoding.md R76,
spec/opcode_table.json). Every other instruction is well formed with any operand.
-/

namespace Sys2Proof

/-- The checks on an instruction's operands. -/
def Instr.wellFormed : Instr → Bool
  | .noop => true
  | .toggle => true
  | .relayMsg => true
  | .relayRaw => true
  | .relayBootpage => true
  | .relayGps => true
  | .reserved0607 t => decide (0x06 ≤ t.toNat ∧ t.toNat ≤ 0x07)
  | .reserved080F t => decide (0x08 ≤ t.toNat ∧ t.toNat ≤ 0x0F)
  | .reserved101F t => decide (0x10 ≤ t.toNat ∧ t.toNat ≤ 0x1F)
  | .reserved203F t => decide (0x20 ≤ t.toNat ∧ t.toNat ≤ 0x3F)
  | .reserved407F t => decide (0x40 ≤ t.toNat ∧ t.toNat ≤ 0x7F)
  | .reserved80FF t => decide (0x80 ≤ t.toNat)
  | .feed _ => true
  | .reset => true

end Sys2Proof
end

