-- ==== Sys2Proof/Decode.lean ====
section
/-!
DEFINITION. The decoder, total on any bytes and rejecting by name, then the encoder, then the opcode table's rows as
data, then the host's reading of a table word. From 30_encoding.md R72 to R77 and spec/opcode_table.json.
-/

namespace Sys2Proof

/-! ## Decoding -/

/-- Why bytes are no instruction. -/
inductive Reject where
  /-- too few bytes for the format -/
  | truncated
  /-- the oldest byte is not the sync sentinel: no frame at all (R73, R77) -/
  | notSentinel
  /-- the reset input is not asserted -/
  | resetNotAsserted
  deriving DecidableEq, Repr

/-- `SENTINEL` (R7): the constant 0x55. -/
def sentinel : Byte := 0x55

/-- The behaviour a `TYPE` value selects (R75, R76): total, since every value has a defined behaviour (R77). -/
def instrOfType (t : Byte) : Instr :=
  if t = 0x00 then .noop
  else if t = 0x01 then .toggle
  else if t = 0x02 then .relayMsg
  else if t = 0x03 then .relayRaw
  else if t = 0x04 then .relayBootpage
  else if t = 0x05 then .relayGps
  else if t.toNat ≤ 0x07 then .reserved0607 t
  else if t.toNat ≤ 0x0F then .reserved080F t
  else if t.toNat ≤ 0x1F then .reserved101F t
  else if t.toNat ≤ 0x3F then .reserved203F t
  else if t.toNat ≤ 0x7F then .reserved407F t
  else .reserved80FF t

/-- A frame's first two bytes (R72, R74): the sentinel, then the type; the payload that follows is not read here. -/
def decodeFrame : List Byte → Except Reject Instr
  | sync :: t :: _ => if sync = sentinel then .ok (instrOfType t) else .error .notSentinel
  | _ => .error .truncated

/-- One byte of the inbound channel: any value is an arrival (R56). -/
def decodeRx : List Byte → Except Reject Instr
  | b :: _ => .ok (.feed b)
  | [] => .error .truncated

/-- The reset input: asserted is RESET (R61). -/
def decodeReset : List Byte → Except Reject Instr
  | v :: _ => if v = 1 then .ok .reset else .error .resetNotAsserted
  | [] => .error .truncated

/-- The decoder: bytes in arrival order, on the input that `format` names. -/
def decode (c : Code) : Except Reject Instr :=
  match c.format with
  | .frameHdr16 => decodeFrame c.bytes
  | .rxByte => decodeRx c.bytes
  | .resetInput => decodeReset c.bytes

/-- The decoded instruction, none where the decoder rejects. -/
def decode? (c : Code) : Option Instr :=
  match decode c with
  | .ok i => some i
  | .error _ => none

/-! ## Encoding -/

/-- The `TYPE` code of a frame instruction (R75, R76); none for the two inputs that are no frame. -/
def typeOf : Instr → Option Byte
  | .noop => some 0x00
  | .toggle => some 0x01
  | .relayMsg => some 0x02
  | .relayRaw => some 0x03
  | .relayBootpage => some 0x04
  | .relayGps => some 0x05
  | .reserved0607 t => some t
  | .reserved080F t => some t
  | .reserved101F t => some t
  | .reserved203F t => some t
  | .reserved407F t => some t
  | .reserved80FF t => some t
  | .feed _ => none
  | .reset => none

/-- The encoder: a frame instruction is its header, sentinel first (R72, R74); an arrival is its byte; reset is 1. -/
def encode : Instr → Code
  | .feed b => ⟨.rxByte, [b]⟩
  | .reset => ⟨.resetInput, [1]⟩
  | .noop => ⟨.frameHdr16, [0x55, 0x00]⟩
  | .toggle => ⟨.frameHdr16, [0x55, 0x01]⟩
  | .relayMsg => ⟨.frameHdr16, [0x55, 0x02]⟩
  | .relayRaw => ⟨.frameHdr16, [0x55, 0x03]⟩
  | .relayBootpage => ⟨.frameHdr16, [0x55, 0x04]⟩
  | .relayGps => ⟨.frameHdr16, [0x55, 0x05]⟩
  | .reserved0607 t => ⟨.frameHdr16, [0x55, t]⟩
  | .reserved080F t => ⟨.frameHdr16, [0x55, t]⟩
  | .reserved101F t => ⟨.frameHdr16, [0x55, t]⟩
  | .reserved203F t => ⟨.frameHdr16, [0x55, t]⟩
  | .reserved407F t => ⟨.frameHdr16, [0x55, t]⟩
  | .reserved80FF t => ⟨.frameHdr16, [0x55, t]⟩

/-! ## The opcode table's header rows -/

/-- A `match`/`mask` row of spec/opcode_table.json over the 16-bit header H (R74). -/
structure Row where
  mnemonic : String
  pattern  : Header
  mask     : Header
  deriving DecidableEq, Repr

/-- A header lies in a row when it agrees with the pattern under the mask. -/
def Row.holds (r : Row) (h : Header) : Bool := decide (h &&& r.mask = r.pattern)

/-- The table's row of a frame instruction, as spec/opcode_table.json writes it. -/
def headerRow : Instr → Option Row
  | .noop => some ⟨"NOOP", 0x5500, 0xFFFF⟩
  | .toggle => some ⟨"TOGGLE", 0x5501, 0xFFFF⟩
  | .relayMsg => some ⟨"RELAY_MSG", 0x5502, 0xFFFF⟩
  | .relayRaw => some ⟨"RELAY_RAW", 0x5503, 0xFFFF⟩
  | .relayBootpage => some ⟨"RELAY_BOOTPAGE", 0x5504, 0xFFFF⟩
  | .relayGps => some ⟨"RELAY_GPS", 0x5505, 0xFFFF⟩
  | .reserved0607 _ => some ⟨"RESERVED_06_07", 0x5506, 0xFFFE⟩
  | .reserved080F _ => some ⟨"RESERVED_08_0F", 0x5508, 0xFFF8⟩
  | .reserved101F _ => some ⟨"RESERVED_10_1F", 0x5510, 0xFFF0⟩
  | .reserved203F _ => some ⟨"RESERVED_20_3F", 0x5520, 0xFFE0⟩
  | .reserved407F _ => some ⟨"RESERVED_40_7F", 0x5540, 0xFFC0⟩
  | .reserved80FF _ => some ⟨"RESERVED_80_FF", 0x5580, 0xFF80⟩
  | .feed _ => none
  | .reset => none

/-- The header `H` of two bytes, the first the high byte (R74). -/
def headerOf (sync t : Byte) : Header := sync ++ t

/-! ## The host's reading of a table word -/

/-- The bytes of a table word as the CORE receives them: a header's high byte is `F[0]` and arrives first (R74, R52).
Sixteen bits are a frame header, eight the inbound byte, one the reset input; no other row exists (log 12). -/
def tableCode (nbits w : Nat) : Option Code :=
  if nbits = 16 then
    (if w < 65536 then some ⟨.frameHdr16, [BitVec.ofNat 8 (w / 256), BitVec.ofNat 8 w]⟩ else none)
  else if nbits = 8 then
    (if w < 256 then some ⟨.rxByte, [BitVec.ofNat 8 w]⟩ else none)
  else if nbits = 1 then
    (if w < 2 then some ⟨.resetInput, [BitVec.ofNat 8 w]⟩ else none)
  else none

/-- The instruction the decoder reads from a table word (the host's fixed name). -/
def decodeTableWord (nbits w : Nat) : Option Instr :=
  match tableCode nbits w with
  | some c => decode? c
  | none => none

end Sys2Proof
end

