-- ==== Sys2Proof/Config.lean ====
section
/-!
DEFINITION. The configuration record Cfg (00_scope.md R6 to R15) and the three OPEN items of the spec, which have no
value here: CKFN (R12) and the two Message type tags (R11). The defaults, the derived constants and the validity
conditions are in Machine/Params.lean.
-/

namespace Sys2Proof

/-- `Lay` (R10): the size of a Message record and the byte offsets of its fields. The checksum is the last byte (R84). -/
structure Layout where
  /-- `sizeof(Message)` in bytes. -/
  S         : Nat
  typeOff   : Nat
  bpAddrOff : Nat
  bpOfsOff  : Nat
  /-- first of the six boot-page data bytes -/
  bpDataOff : Nat
  /-- first of the seven GPS fragment bytes -/
  gpsOff    : Nat
  deriving DecidableEq, Repr

/-- `Cfg` (R6 to R13). CKFN is not a field, since State holds plain data: it is `Config.ckfn` below (log 5). -/
structure Config where
  /-- window and frame length in bytes (R6) -/
  N             : Nat
  /-- `PAGE_SIZE`, the boot-page bound in bytes (R8) -/
  pageSize      : Nat
  /-- `BP_DATA_BASE`, 0 or 1 (R9) -/
  bpDataBase    : Fin 2
  lay           : Layout
  /-- `MT_BOOTPGM_PAGE`, OPEN (R11) -/
  mtBootpgmPage : Byte
  /-- `MT_GPS`, OPEN (R11) -/
  mtGps         : Byte
  /-- `RX_HOLD_DEPTH`: bytes that can wait while arrivals are suppressed (R13) -/
  rxHoldDepth   : Nat
  deriving DecidableEq, Repr

/-- `CKFN` (R12, R60): the Transport's checksum of the bytes `MSG[0 .. S−2]`. OPEN: nothing is known of it but that it is
a function of those bytes (log 5). -/
opaque Config.ckfn : List Byte → Byte

/-- The value of `MT_BOOTPGM_PAGE` in the default configuration. OPEN (R11; log 4). -/
opaque Config.openMtBootpgmPage : Byte

/-- The value of `MT_GPS` in the default configuration. OPEN (R11; log 4). -/
opaque Config.openMtGps : Byte

end Sys2Proof
end

