-- ==== Sys2Proof/Machine/Params.lean ====
section
/-!
DEFINITION. The default configuration (00_scope.md R6 to R13), the derived constants (R22) and the validity conditions
V1 to V5 (R15).
-/

namespace Sys2Proof

/-! ## Derived constants (R22) -/

/-- `PL = N − 2`, the payload length. -/
def Config.PL (c : Config) : Nat := c.N - 2

/-- `NG = ceil(PAGE_SIZE / 6)`, the number of boot-page groups. -/
def Config.NG (c : Config) : Nat := (c.pageSize + 5) / 6

/-- `NF = floor(PL / 7)`, the number of whole GPS fragments. -/
def Config.NF (c : Config) : Nat := c.PL / 7

/-- `CK_OFF = S − 1`, the offset of the Message checksum byte. -/
def Config.ckOff (c : Config) : Nat := c.lay.S - 1

/-! ## Validity (R15) -/

/-- V1: the copy of `S` payload bytes stays inside the frame. -/
def Config.v1 (c : Config) : Bool := decide (c.lay.S + 2 ≤ c.N)

/-- V2, first half: every layout field lies in `0 .. S − 2`, each of its bytes included (log 10). -/
def Config.v2Inside (c : Config) : Bool :=
  decide (2 ≤ c.lay.S ∧ c.lay.typeOff + 2 ≤ c.lay.S ∧ c.lay.bpAddrOff + 2 ≤ c.lay.S ∧ c.lay.bpOfsOff + 2 ≤ c.lay.S ∧
    c.lay.bpDataOff + 7 ≤ c.lay.S ∧ c.lay.gpsOff + 8 ≤ c.lay.S)

/-- V2, second half: the boot-page fields are pairwise disjoint, and so are the GPS fields. -/
def Config.v2Disjoint (c : Config) : Bool :=
  decide (c.lay.typeOff ≠ c.lay.bpAddrOff ∧ c.lay.typeOff ≠ c.lay.bpOfsOff ∧ c.lay.bpAddrOff ≠ c.lay.bpOfsOff) &&
  decide (c.lay.typeOff < c.lay.bpDataOff ∨ c.lay.bpDataOff + 6 ≤ c.lay.typeOff) &&
  decide (c.lay.bpAddrOff < c.lay.bpDataOff ∨ c.lay.bpDataOff + 6 ≤ c.lay.bpAddrOff) &&
  decide (c.lay.bpOfsOff < c.lay.bpDataOff ∨ c.lay.bpDataOff + 6 ≤ c.lay.bpOfsOff) &&
  decide (c.lay.typeOff < c.lay.gpsOff ∨ c.lay.gpsOff + 7 ≤ c.lay.typeOff)

/-- V3: no boot-page group reads past the frame (`BP_DATA_BASE + 6 · NG ≤ N − 2`). -/
def Config.v3 (c : Config) : Bool := decide (c.bpDataBase.val + 6 * c.NG ≤ c.N - 2)

/-- V4: every boot-page word offset fits its byte. -/
def Config.v4 (c : Config) : Bool := decide (1 ≤ c.NG → 3 * (c.NG - 1) ≤ 255)

/-- R15: the configuration meets V1 to V4; V5 (`RX_HOLD_DEPTH ≥ 0`) holds of every natural number. -/
def Config.valid (c : Config) : Bool :=
  c.v1 && c.v2Inside && c.v2Disjoint && c.v3 && c.v4

/-! ## The default configuration (R6, R8, R9, R10, R13) -/

/-- The default `Lay` (R10). -/
def Layout.reference : Layout :=
  { S := 10, typeOff := 0, bpAddrOff := 1, bpOfsOff := 2, bpDataOff := 3, gpsOff := 1 }

/-- The default configuration; its two Message type tags stay OPEN (R11; log 4). -/
def Config.reference : Config :=
  { N := 132, pageSize := 126, bpDataBase := 1, lay := Layout.reference,
    mtBootpgmPage := Config.openMtBootpgmPage, mtGps := Config.openMtGps, rxHoldDepth := 1 }

end Sys2Proof
end

