-- ==== Sys2Proof/Machine/State.lean ====
section
/-!
DEFINITION. The machine's state as plain data (10_state.md R25 to R39), the events it emits (00_scope.md R19), the turns
of the environment schedule (30_encoding.md R90), the reasons a step can stop, and the state after reset
(70_reset_and_hazards.md R161).
-/

namespace Sys2Proof.Machine

/-- One of the CORE's byte arrays (R48): (index, byte) cells, indices strictly rising, no cell 0x00. An unlisted index
reads 0x00, the reset contents (R161; log 6). The operations are in Ops.lean. -/
abbrev Memory := List Host.Cell

/-- `DSTATE` (R34): the thirteen step states of the Dispatcher. -/
inductive DState where
  | idle | tgl | rmTop | rmOn | rmSend | rmOff | bpEnter | bpLoop | gpsEnter | gpsLoop | xRelease | xPulseOn | xPulseOff
  deriving DecidableEq, Repr

/-- The Indicator lines the CORE drives (R14, R59). -/
inductive Line where
  /-- `IND_TOGGLE = 0` -/
  | indToggle
  /-- `IND_TX = 1` -/
  | indTx
  deriving DecidableEq, Repr

/-- An event of the output trace (R19). -/
inductive Event where
  /-- `Send(m)`: the record's `S` bytes, index order (R58) -/
  | send (m : List Byte)
  /-- `Ind(l, v)` (R59) -/
  | ind (l : Line) (v : Bool)
  deriving DecidableEq, Repr

/-- Whose step comes next: one entry of an environment schedule (R90), `ARRIVE`, `RESET` or one `DISP` (log 1). -/
inductive Turn where
  /-- the byte source presents one byte (R56) -/
  | arrive (b : Byte)
  /-- the environment applies reset (R61) -/
  | reset
  /-- the Dispatcher is scheduled for one step -/
  | dispatcher
  deriving DecidableEq, Repr

/-- The machine. The spec's own state is `w` to `hold`; `cfg`, `sched` and `trace` are what R39 calls not state, held
here because a step has no other argument and no other result (logs 1, 2, 3). -/
@[ext]
structure State where
  /-- the configuration `Cfg`, fixed for a run (R38) -/
  cfg      : Config
  /-- `W[0..N−1]`, the ReceiveWindow (R25) -/
  w        : Memory
  /-- `HEAD`, the index of the next byte to be overwritten (R26) -/
  head     : Nat
  /-- `CK`, the accumulated checksum (R27) -/
  ck       : Byte
  /-- `F[0..N−1]`, the CompletedFrame latch (R28) -/
  f        : Memory
  /-- `TYPE`, the latched packet type (R29) -/
  ftype    : Byte
  /-- `FA`, FrameAvailable (R30) -/
  fa       : Bool
  /-- `TOGGLE` (R31) -/
  toggle   : Bool
  /-- `MSG[0..S−1]`, the Message buffer (R32) -/
  msg      : Memory
  /-- `CNT`, the loop index (R33) -/
  cnt      : Nat
  /-- `DSTATE` (R34) -/
  dstate   : DState
  /-- `SUPPRESS` (R35) -/
  suppress : Bool
  /-- `HOLD`, oldest first (R36) -/
  hold     : List Byte
  /-- the turns still to come; when none is left, every further turn is the Dispatcher's (log 1) -/
  sched    : List Turn
  /-- the output trace, oldest event first (R19; log 2) -/
  trace    : List Event
  deriving DecidableEq, Repr

/-- Why the machine stops with a fault: never. The CORE raises no exception and no step of it can fail (R141), so this
type has no constructor (log 16). Nothing raises it; safe. -/
inductive Fault where
  deriving DecidableEq, Repr

/-- Why the model gives no step. -/
inductive Refusal where
  /-- An instruction without a meaning yet, by its mnemonic; raised by exec's arm alone. Safe. -/
  | notModelled (mnemonic : String)
  /-- The configuration fails R15, so it has no hardware meaning (R20, R142). Raised by every meaning and every
  dispatcher step. Safe. -/
  | invalidConfig
  deriving DecidableEq, Repr

/-- The state right after reset (R161): all of 10_state.md's reset values, the default configuration, nothing scheduled
and an empty trace. -/
def State.reset : State :=
  { cfg := Config.reference, w := [], head := 0, ck := 0x00, f := [], ftype := 0x00, fa := false, toggle := false,
    msg := [], cnt := 0, dstate := .idle, suppress := false, hold := [], sched := [], trace := [] }

end Sys2Proof.Machine
end

