-- ==== Sys2Proof/Machine/Flags.lean ====
section
/-!
DEFINITION. The flags FA, TOGGLE and SUPPRESS (10_state.md R46): every way the rules set, clear, flip and test them.
TAKE and POLL are 41_frame_store.md R103 and R104; the CORE has no condition codes.
-/

namespace Sys2Proof.Machine

/-- `FA <- 1`, only ever in PUBLISH (R102, R107). -/
def State.setFA (s : State) : State := { s with fa := true }

/-- TAKE's clear of `FA` (R103): `FA <- 0`. The step-local `T` is the `TYPE` the fetch decoded. -/
def State.take (s : State) : State := { s with fa := false }

/-- POLL (R104): is a fresh frame available? Writes nothing. -/
def State.poll (s : State) : Bool := s.fa

/-- `TOGGLE <- 1 − TOGGLE` (R114). -/
def State.flipToggle (s : State) : State := { s with toggle := !s.toggle }

/-- `SUPPRESS <- 1` (R122, R125). -/
def State.setSuppress (s : State) : State := { s with suppress := true }

/-- `SUPPRESS <- 0` (R127). -/
def State.clearSuppress (s : State) : State := { s with suppress := false }

end Sys2Proof.Machine
end

