-- ==== Sys2Proof/Machine/Ops.lean ====
section
/-!
DEFINITION. The named operations: the byte arrays (20_memory.md R48 to R54), the output primitive (00_scope.md R19), the
refusal primitive (R20), FEED with PUBLISH (40_detector.md R91, 41_frame_store.md R102) and RELEASE_HOLD
(60_exceptions.md R148). The CORE has no exception to take or return from (R141, R151): its one asynchronous event is an
arrival, whose entry is `State.arrive`.
-/

namespace Sys2Proof.Machine

/-! ## Byte arrays -/

/-- The canonical form: indices strictly rising, no cell 0x00 (what an unlisted index reads as). -/
def Memory.wf : Memory → Bool
  | [] => true
  | c :: m =>
    decide (c.2 ≠ 0) && (match m with | [] => true | d :: _ => decide (c.1 < d.1)) && Memory.wf m

/-- Every cell lies in the array's index range `0 .. n − 1` (R48). -/
def Memory.within (n : Nat) (m : Memory) : Bool := m.all fun c => decide (c.1 < n)

/-- `A[i]` (R18): one byte; an unlisted index reads 0x00 (log 6). -/
def Memory.read : Memory → Nat → Byte
  | [], _ => 0x00
  | c :: m, a => if a < c.1 then 0x00 else if a = c.1 then c.2 else Memory.read m a

/-- `A[i] <- v` (R18): one byte; writing 0x00 unlists the index, so the form stays canonical. -/
def Memory.write : Memory → Nat → Byte → Memory
  | [], a, v => if v = 0 then [] else [(a, v)]
  | c :: m, a, v =>
    if a < c.1 then (if v = 0 then c :: m else (a, v) :: c :: m)
    else if a = c.1 then (if v = 0 then m else (a, v) :: m)
    else c :: Memory.write m a v

/-- `for k in 0 .. n−1: A[base + k] <- g k`, in order. -/
def Memory.copyIn (m : Memory) (base : Nat) (g : Nat → Byte) : Nat → Memory
  | 0 => m
  | n + 1 => (Memory.copyIn m base g n).write (base + n) (g n)

/-- The slice `A[0 .. n−1]` in index order. -/
def Memory.bytes (m : Memory) (n : Nat) : List Byte := (List.range n).map m.read

/-- `XOR(v[0..n−1])` (R16), 0x00 for the empty range. -/
def xorRange (g : Nat → Byte) : Nat → Byte
  | 0 => 0x00
  | n + 1 => xorRange g n ^^^ g n

/-! ## Output, control and refusal primitives -/

/-- `emit e` (R19): append to the output trace. -/
def State.emit (e : Event) (s : State) : State := { s with trace := s.trace ++ [e] }

/-- `DSTATE <- d` (R18). -/
def State.goto (d : DState) (s : State) : State := { s with dstate := d }

/-- `CNT <- n` (R122, R123, R125, R126). -/
def State.setCnt (n : Nat) (s : State) : State := { s with cnt := n }

/-- `MSG <- m` as a whole array, after a sequence of byte writes. -/
def State.setMsg (m : Memory) (s : State) : State := { s with msg := m }

/-- A step from `s` to `t`, given a meaning only under a valid configuration (R15, R20, R142). -/
def State.complete (s t : State) : Host.Outcome State Fault Refusal :=
  if s.cfg.valid then .next t else .refused .invalidConfig

/-! ## FEED and PUBLISH -/

/-- PUBLISH (R102): latch the window, oldest byte first, with its type, and set `FA`. -/
def State.publish (s : State) : State :=
  let f := s.f.copyIn 0 (fun i => s.w.read ((s.head + i) % s.cfg.N)) s.cfg.N
  { s.setFA with f := f, ftype := f.read 1 }

/-- FEED's steps 1 to 3 (R91): replace the byte at `HEAD` in the window and in the checksum, advance `HEAD`. `HEAD` is
used modulo `N`, so no window index is out of range in any state (R49; log 8). -/
def State.shiftIn (b : Byte) (s : State) : State :=
  { s with
    ck := (s.ck ^^^ s.w.read (s.head % s.cfg.N)) ^^^ b
    w := s.w.write (s.head % s.cfg.N) b
    head := (s.head + 1) % s.cfg.N }

/-- The detection condition (R93): the oldest byte is the sentinel and the checksum is zero. -/
def State.synchronized (s : State) : Bool := decide (s.w.read s.head = sentinel) && decide (s.ck = 0x00)

/-- FEED(b) (R91): one atomic update, with PUBLISH on a detection. -/
def State.feed (b : Byte) (s : State) : State :=
  let t := s.shiftIn b
  if t.synchronized then t.publish else t

/-! ## Arrivals and their release -/

/-- An arrival while masked (R147): held when there is room, else lost without notice. -/
def State.holdByte (b : Byte) (s : State) : State :=
  if s.hold.length < s.cfg.rxHoldDepth then { s with hold := s.hold ++ [b] } else s

/-- An arrival step (R145, R147): FEED when arrivals are enabled, else hold or lose the byte. -/
def State.arrive (b : Byte) (s : State) : State := if s.suppress then s.holdByte b else s.feed b

/-- FEED a sequence of bytes, oldest first. -/
def State.feedAll (bs : List Byte) (s : State) : State := bs.foldl (fun t b => t.feed b) s

/-- RELEASE_HOLD (R148): FEED each held byte, oldest first, and empty `HOLD`. -/
def State.releaseHold (s : State) : State := { s.feedAll s.hold with hold := [] }

end Sys2Proof.Machine
end

