-- ==== Sys2Proof/Machine/Operands.lean ====
section
/-!
DEFINITION. The payload sub-formats (30_encoding.md R78 to R82) and the Message records built from them (R84 to R89):
every operand form the Dispatcher has.
-/

namespace Sys2Proof.Machine

/-- Payload byte `k` is `F[2 + k]` (R23). -/
def State.payload (s : State) (k : Nat) : Byte := s.f.read (2 + k)

/-- `MSG[S−1] <- CKFN(MSG[0 .. S−2])` (R60, R84). -/
def Memory.withChecksum (c : Config) (m : Memory) : Memory := m.write c.ckOff (Config.ckfn (m.bytes c.ckOff))

/-- COPY_MSG_RECOMPUTE's record (R78, R115): the first `S − 1` payload bytes, then the recomputed checksum. -/
def State.relayMessage (s : State) : Memory :=
  (s.msg.copyIn 0 s.payload (s.cfg.lay.S - 1)).withChecksum s.cfg

/-- COPY_MSG_RAW's record (R79, R116): the first `S` payload bytes, verbatim. -/
def State.rawMessage (s : State) : Memory := s.msg.copyIn 0 s.payload s.cfg.lay.S

/-- Zero fill of `MSG[0 .. S−2]` before a Message is built (R88). -/
def State.clearedMessage (s : State) : Memory := s.msg.copyIn 0 (fun _ => 0x00) (s.cfg.lay.S - 1)

/-- The word offset byte of group `g` (R89): `3g`, which V4 keeps below 256. -/
def wordOffset (g : Nat) : Byte := BitVec.ofNat 8 (3 * g)

/-- Byte `j` of boot-page data group `g` (R80). -/
def State.groupByte (s : State) (g j : Nat) : Byte := s.payload (s.cfg.bpDataBase.val + 6 * g + j)

/-- The boot-page-write Message of group `g` (R85, R123). -/
def State.bootPageMessage (s : State) (g : Nat) : Memory :=
  ((((s.clearedMessage.write s.cfg.lay.typeOff s.cfg.mtBootpgmPage).write s.cfg.lay.bpAddrOff (s.payload 0)).write
    s.cfg.lay.bpOfsOff (wordOffset g)).copyIn s.cfg.lay.bpDataOff (s.groupByte g) 6).withChecksum s.cfg

/-- Byte `j` of GPS fragment `k` (R81); byte 0 is its `id`. -/
def State.fragmentByte (s : State) (k j : Nat) : Byte := s.payload (7 * k + j)

/-- The GPS-fix-fragment Message of fragment `k` (R86, R126). -/
def State.gpsMessage (s : State) (k : Nat) : Memory :=
  ((s.clearedMessage.write s.cfg.lay.typeOff s.cfg.mtGps).copyIn s.cfg.lay.gpsOff (s.fragmentByte k) 7).withChecksum s.cfg

/-- `emit Send(MSG[0 .. S−1])` (R58). -/
def State.send (s : State) : State := s.emit (.send (s.msg.bytes s.cfg.lay.S))

end Sys2Proof.Machine
end

