-- ==== Sys2Proof/Machine/Behaviours.lean ====
section
/-!
DEFINITION. The behaviour steps a dispatched frame continues with (42_dispatcher.md R114, R117 to R120, R122, R123, R125
to R129): one per value of DSTATE other than IDLE, and the wait of R110 in IDLE. They have no row in the opcode table;
the step runs them whenever it is the Dispatcher's turn and no frame is decoded.
-/

namespace Sys2Proof.Machine

/-- TGL (R114): flip the boolean and drive line 0 to match. -/
def State.tgl (s : State) : State := (s.flipToggle.emit (.ind .indToggle s.flipToggle.toggle)).goto .idle

/-- RM_TOP (R117): leave on a fresh frame without consuming it. -/
def State.rmTop (s : State) : State := if s.poll then s.goto .idle else s.goto .rmOn

/-- RM_ON (R118). -/
def State.rmOn (s : State) : State := (s.emit (.ind .indTx true)).goto .rmSend

/-- RM_SEND (R119). -/
def State.rmSend (s : State) : State := s.send.goto .rmOff

/-- RM_OFF (R120). -/
def State.rmOff (s : State) : State := (s.emit (.ind .indTx false)).goto .rmTop

/-- BP_ENTER (R122): suppress arrivals, group 0 next. -/
def State.bpEnter (s : State) : State := (s.setSuppress.setCnt 0).goto .bpLoop

/-- BP_LOOP (R123): one group, or out on the page bound or a fresh frame. -/
def State.bpLoop (s : State) : State :=
  if 6 * s.cnt ≥ s.cfg.pageSize then s.goto .xRelease
  else if s.poll then s.goto .xRelease
  else ((s.setMsg (s.bootPageMessage s.cnt)).send).setCnt (s.cnt + 1)

/-- GPS_ENTER (R125): suppress arrivals, fragment 0 next. -/
def State.gpsEnter (s : State) : State := (s.setSuppress.setCnt 0).goto .gpsLoop

/-- GPS_LOOP (R126): one fragment, or out on the payload bound, a fresh frame or the end sentinel. -/
def State.gpsLoop (s : State) : State :=
  if 7 * s.cnt + 7 > s.cfg.N - 2 then s.goto .xRelease
  else if s.poll then s.goto .xRelease
  else if s.fragmentByte s.cnt 0 = 0x00 then s.goto .xRelease
  else ((s.setMsg (s.gpsMessage s.cnt)).send).setCnt (s.cnt + 1)

/-- X_RELEASE (R127): re-enable arrivals, then take the held ones. -/
def State.xRelease (s : State) : State := s.clearSuppress.releaseHold.goto .xPulseOn

/-- X_PULSE_ON (R128). -/
def State.xPulseOn (s : State) : State := (s.emit (.ind .indTx true)).goto .xPulseOff

/-- X_PULSE_OFF (R129). -/
def State.xPulseOff (s : State) : State := (s.emit (.ind .indTx false)).goto .idle

/-- The Dispatcher's step that decodes no frame (R109): by DSTATE; in IDLE it waits and changes nothing (R110). -/
def State.behave (s : State) : State :=
  match s.dstate with
  | .idle => s
  | .tgl => s.tgl
  | .rmTop => s.rmTop
  | .rmOn => s.rmOn
  | .rmSend => s.rmSend
  | .rmOff => s.rmOff
  | .bpEnter => s.bpEnter
  | .bpLoop => s.bpLoop
  | .gpsEnter => s.gpsEnter
  | .gpsLoop => s.gpsLoop
  | .xRelease => s.xRelease
  | .xPulseOn => s.xPulseOn
  | .xPulseOff => s.xPulseOff

/-- The behaviour step as an outcome: no step under an invalid configuration (R20). -/
def behaviourStep (s : State) : Host.Outcome State Fault Refusal := s.complete s.behave

end Sys2Proof.Machine
end

