-- ==== Sys2Proof/Machine/Inputs.lean ====
section
/-!
DEFINITION. The two instructions that are not frames: FEED, one arrival step (60_exceptions.md R145, R147), and RESET
(70_reset_and_hazards.md R161).
-/

namespace Sys2Proof.Machine

/-- FEED (opcode table, R91, R145, R147): the event `Arrive(b)`. -/
def execFeed (b : Byte) (s : State) : Host.Outcome State Fault Refusal := s.complete (s.arrive b)

/-- RESET's effect (R161): every piece of the CORE's state to its reset value. The configuration is fixed (R38), the
trace keeps its events and gets none (R161, R162), the schedule is the environment's (log 15). -/
def State.toReset (s : State) : State :=
  { s with
    w := [], head := 0, ck := 0x00, f := [], ftype := 0x00, fa := false, toggle := false,
    msg := [], cnt := 0, dstate := .idle, suppress := false, hold := [] }

/-- RESET (R161), at any step boundary (R162). -/
def execReset (s : State) : Host.Outcome State Fault Refusal := s.complete s.toReset

end Sys2Proof.Machine
end

