-- ==== Sys2Proof/Machine/Packets.lean ====
section
/-!
DEFINITION. The DECODE step (42_dispatcher.md R111), one meaning per defined packet type: TAKE, the type's own set-up,
and the transition to the state its behaviour continues in. The guard `DSTATE = IDLE and FA = 1` is the fetch's
(Machine/Fetch.lean; log 9).
-/

namespace Sys2Proof.Machine

/-- NOOP, type 0 (R112): consumed, nothing else. -/
def execNoop (s : State) : Host.Outcome State Fault Refusal := s.complete (s.take.goto .idle)

/-- TOGGLE, type 1 (R113): the TGL step follows. -/
def execToggle (s : State) : Host.Outcome State Fault Refusal := s.complete (s.take.goto .tgl)

/-- RELAY_MSG, type 2 (R115): copy `S − 1` payload bytes, recompute the checksum; the relay loop follows. -/
def execRelayMsg (s : State) : Host.Outcome State Fault Refusal :=
  s.complete ((s.take.setMsg s.relayMessage).goto .rmTop)

/-- RELAY_RAW, type 3 (R116): copy `S` payload bytes verbatim; the relay loop follows. -/
def execRelayRaw (s : State) : Host.Outcome State Fault Refusal :=
  s.complete ((s.take.setMsg s.rawMessage).goto .rmTop)

/-- RELAY_BOOTPAGE, type 4 (R121): arrivals stay enabled until BP_ENTER. -/
def execRelayBootpage (s : State) : Host.Outcome State Fault Refusal := s.complete (s.take.goto .bpEnter)

/-- RELAY_GPS, type 5 (R124): arrivals stay enabled until GPS_ENTER. -/
def execRelayGps (s : State) : Host.Outcome State Fault Refusal := s.complete (s.take.goto .gpsEnter)

end Sys2Proof.Machine
end

