-- ==== Sys2Proof/Machine/Reserved.lean ====
section
/-!
DEFINITION. The reserved packet types 0x06 to 0xFF (30_encoding.md R76, 42_dispatcher.md R130): consumed and ignored, as
Noop. One meaning per row of the opcode table.
-/

namespace Sys2Proof.Machine

/-- The Decode step's reserved arm (R111, R130): TAKE, back to IDLE, no event. -/
def State.ignoreFrame (s : State) : State := s.take.goto .idle

/-- RESERVED_06_07 (R130). -/
def execReserved0607 (s : State) : Host.Outcome State Fault Refusal := s.complete s.ignoreFrame

/-- RESERVED_08_0F (R130). -/
def execReserved080F (s : State) : Host.Outcome State Fault Refusal := s.complete s.ignoreFrame

/-- RESERVED_10_1F (R130). -/
def execReserved101F (s : State) : Host.Outcome State Fault Refusal := s.complete s.ignoreFrame

/-- RESERVED_20_3F (R130). -/
def execReserved203F (s : State) : Host.Outcome State Fault Refusal := s.complete s.ignoreFrame

/-- RESERVED_40_7F (R130). -/
def execReserved407F (s : State) : Host.Outcome State Fault Refusal := s.complete s.ignoreFrame

/-- RESERVED_80_FF (R130). -/
def execReserved80FF (s : State) : Host.Outcome State Fault Refusal := s.complete s.ignoreFrame

end Sys2Proof.Machine
end

