-- ==== Sys2Proof/Machine/Dispatch.lean ====
section
/-!
DEFINITION. The dispatch: one arm per constructor of Instr, each one call of its meaning.
-/

namespace Sys2Proof.Machine

def exec (i : Instr) (s : State) : Host.Outcome State Fault Refusal :=
  match i with
  | .noop => Sys2Proof.Machine.execNoop s
  | .toggle => Sys2Proof.Machine.execToggle s
  | .relayMsg => Sys2Proof.Machine.execRelayMsg s
  | .relayRaw => Sys2Proof.Machine.execRelayRaw s
  | .relayBootpage => Sys2Proof.Machine.execRelayBootpage s
  | .relayGps => Sys2Proof.Machine.execRelayGps s
  | .reserved0607 _ => Sys2Proof.Machine.execReserved0607 s
  | .reserved080F _ => Sys2Proof.Machine.execReserved080F s
  | .reserved101F _ => Sys2Proof.Machine.execReserved101F s
  | .reserved203F _ => Sys2Proof.Machine.execReserved203F s
  | .reserved407F _ => Sys2Proof.Machine.execReserved407F s
  | .reserved80FF _ => Sys2Proof.Machine.execReserved80FF s
  | .feed b => Sys2Proof.Machine.execFeed b s
  | .reset => Sys2Proof.Machine.execReset s

end Sys2Proof.Machine
end

