-- ==== Sys2Proof/Machine/Fetch.lean ====
section
/-!
DEFINITION. Which instruction a step runs: the schedule's next turn (30_encoding.md R90) and, on the Dispatcher's turn,
the guard of the DECODE step (42_dispatcher.md R111). Also the placing of a table word for the host (log 13).
-/

namespace Sys2Proof.Machine

/-- It is the Dispatcher's turn: the schedule says so, or it has run out (log 1). -/
def State.dispatcherTurn (s : State) : Bool :=
  match s.sched with
  | [] => true
  | .dispatcher :: _ => true
  | .arrive _ :: _ => false
  | .reset :: _ => false

/-- The schedule moves on by one turn. -/
def State.takeTurn (s : State) : State := { s with sched := s.sched.tail }

/-- The guard of the DECODE step (R111): `DSTATE = IDLE and FA = 1`. -/
def State.decodeEnabled (s : State) : Bool := decide (s.dstate = .idle) && s.fa

/-- The code the step reads: an arriving byte, the reset input, or the header of the latched frame, whose sync byte is
the sentinel (R73) and whose type is the latch `TYPE` (R74, R111). None when the Dispatcher continues a behaviour or
waits. -/
def State.fetch (s : State) : Option Code :=
  match s.sched with
  | .arrive b :: _ => some ⟨.rxByte, [b]⟩
  | .reset :: _ => some ⟨.resetInput, [1]⟩
  | .dispatcher :: _ => if s.decodeEnabled then some ⟨.frameHdr16, [sentinel, s.ftype]⟩ else none
  | [] => if s.decodeEnabled then some ⟨.frameHdr16, [sentinel, s.ftype]⟩ else none

/-- The instruction of this step, if it runs one. -/
def State.nextInstr (s : State) : Option Instr :=
  match s.fetch with
  | some c => decode? c
  | none => none

/-- The Dispatcher's turn comes first; nothing changes where it already does. -/
def State.giveDispatcherTurn (s : State) : State :=
  if s.dispatcherTurn then s else { s with sched := .dispatcher :: s.sched }

/-- A code placed where the next step reads it: a frame header is latched as a published frame whose payload is zero,
with the Dispatcher in IDLE and on turn; a byte or an asserted reset is the schedule's next turn. A header without the
sentinel is no frame (R73), so nothing is placed. -/
def State.place (s : State) (c : Code) : State :=
  match c.format, c.bytes with
  | .frameHdr16, sync :: t :: _ =>
    if sync = sentinel then
      { s.giveDispatcherTurn.setFA with
        f := (Memory.write [] 0 sync).write 1 t, ftype := t, dstate := .idle }
    else s
  | .rxByte, b :: _ => { s with sched := .arrive b :: s.sched }
  | .resetInput, v :: _ => if v = 1 then { s with sched := .reset :: s.sched } else s
  | _, _ => s

/-- The host's table word, placed (log 13). -/
def State.placeWord (s : State) (nbits w : Nat) : State :=
  match tableCode nbits w with
  | some c => s.place c
  | none => s

end Sys2Proof.Machine
end

