-- ==== Sys2Proof/Machine/Step.lean ====
section
/-!
DEFINITION. One step (00_scope.md R5): an arrival or reset the schedule presents, the DECODE of an available frame, or the
next step of the running behaviour.
-/

namespace Sys2Proof.Machine

/-- One atomic step: the decoded instruction, else the Dispatcher's behaviour step, with the schedule moved on. -/
def step (s : State) : Host.Outcome State Fault Refusal :=
  match s.nextInstr with
  | some i => exec i s.takeTurn
  | none => behaviourStep s.takeTurn

/-- A table word placed where the next step reads it (log 13). -/
def State.withFetchWord (s : State) (nbits w : Nat) : State := s.placeWord nbits w

end Sys2Proof.Machine
end

