-- ==== Sys2Proof/Safety.lean ====
section
/-!
DEFINITION. What counts as a well-behaved machine, in the terms the statements use: the invariants of 10_state.md R40 to
R44, the transition graph of 42_dispatcher.md R109, the last level driven on an Indicator line (R139), quiescence (R179),
and sequences of arrivals.
-/

namespace Sys2Proof.Machine

/-! ## Invariants of the state (10_state.md section 6) -/

/-- A Dispatcher state inside the suppressed loops (R43). -/
def DState.suppressed : DState → Bool
  | .bpLoop => true
  | .gpsLoop => true
  | .xRelease => true
  | .idle => false
  | .tgl => false
  | .rmTop => false
  | .rmOn => false
  | .rmSend => false
  | .rmOff => false
  | .bpEnter => false
  | .gpsEnter => false
  | .xPulseOn => false
  | .xPulseOff => false

/-- The latch holds a frame (R41): it starts with the sentinel and XORs to zero. -/
def State.frameValid (s : State) : Prop := s.f.read 0 = sentinel ∧ xorRange s.f.read s.cfg.N = 0x00

/-- Nothing has been published since reset: the latch is empty, no frame is available, the Dispatcher is in IDLE. -/
def State.unpublished (s : State) : Prop := s.f = [] ∧ s.fa = false ∧ s.dstate = .idle

/-- The invariant of the CORE: every clause is a rule of 10_state.md, or the canonical form and range of an array. -/
structure State.Inv (s : State) : Prop where
  /-- the configuration is valid (R15) -/
  valid      : s.cfg.valid = true
  /-- the arrays are in canonical form (log 6) -/
  w_wf       : s.w.wf = true
  f_wf       : s.f.wf = true
  msg_wf     : s.msg.wf = true
  /-- the arrays hold no index outside their range (R48) -/
  w_within   : s.w.within s.cfg.N = true
  f_within   : s.f.within s.cfg.N = true
  msg_within : s.msg.within s.cfg.lay.S = true
  /-- `HEAD` lies in `0 .. N−1` (R26) -/
  head_lt    : s.head < s.cfg.N
  /-- the checksum invariant (R40) -/
  checksum   : s.ck = xorRange s.w.read s.cfg.N
  /-- `TYPE = F[1]` (R29) -/
  type_eq    : s.ftype = s.f.read 1
  /-- the published-frame invariant (R41) -/
  frame      : s.unpublished ∨ s.frameValid
  /-- `CNT` lies in `0 .. max(NG, NF)` (R33) -/
  cnt_le     : s.cnt ≤ max s.cfg.NG s.cfg.NF
  /-- `HOLD` is no longer than `RX_HOLD_DEPTH` (R36) -/
  hold_le    : s.hold.length ≤ s.cfg.rxHoldDepth
  /-- the hold invariant (R42) -/
  hold_supp  : s.hold ≠ [] → s.suppress = true
  /-- the suppression invariant (R43) -/
  supp_iff   : s.suppress = s.dstate.suppressed

/-! ## Turns and transitions -/

/-- It is the Dispatcher's turn and it is in state `d`, not decoding a frame. -/
def State.behaving (s : State) (d : DState) : Prop := s.dispatcherTurn = true ∧ s.dstate = d

/-- The transition graph of R109, waiting included (R110). -/
def DState.mayGo : DState → DState → Bool
  | .idle, d => [DState.idle, .tgl, .rmTop, .bpEnter, .gpsEnter].contains d
  | .tgl, d => d == .idle
  | .rmTop, d => [DState.idle, .rmOn].contains d
  | .rmOn, d => d == .rmSend
  | .rmSend, d => d == .rmOff
  | .rmOff, d => d == .rmTop
  | .bpEnter, d => d == .bpLoop
  | .bpLoop, d => [DState.bpLoop, .xRelease].contains d
  | .gpsEnter, d => d == .gpsLoop
  | .gpsLoop, d => [DState.gpsLoop, .xRelease].contains d
  | .xRelease, d => d == .xPulseOn
  | .xPulseOn, d => d == .xPulseOff
  | .xPulseOff, d => d == .idle

/-- A state of the type 2 and 3 relay loop (R117 to R120). -/
def DState.relaying : DState → Bool
  | .rmTop => true
  | .rmOn => true
  | .rmSend => true
  | .rmOff => true
  | .idle => false
  | .tgl => false
  | .bpEnter => false
  | .bpLoop => false
  | .gpsEnter => false
  | .gpsLoop => false
  | .xRelease => false
  | .xPulseOn => false
  | .xPulseOff => false

/-- A state in which line `IND_TX` was last driven on: between its on event and its off event (R118, R120, R128, R129). -/
def DState.pulsing : DState → Bool
  | .rmSend => true
  | .rmOff => true
  | .xPulseOff => true
  | .idle => false
  | .tgl => false
  | .rmTop => false
  | .rmOn => false
  | .bpEnter => false
  | .bpLoop => false
  | .gpsEnter => false
  | .gpsLoop => false
  | .xRelease => false
  | .xPulseOn => false

/-- Quiescence (R179): IDLE with no frame available. -/
def State.quiescent (s : State) : Prop := s.dstate = .idle ∧ s.fa = false

/-! ## The output trace -/

/-- The level line `IND_TX` was last driven to, none when it never was. -/
def txLevel : List Event → Option Bool
  | [] => none
  | e :: es =>
    match txLevel es with
    | some v => some v
    | none =>
      match e with
      | .ind .indTx v => some v
      | .ind .indToggle _ => none
      | .send _ => none

/-- Line `IND_TX` is as the Dispatcher's state says (R139): on only inside a pulse. -/
def State.indicatorConsistent (s : State) : Prop :=
  s.dstate.pulsing = false → txLevel s.trace ≠ some true

/-- How many `Send` events a trace holds. -/
def sendCount : List Event → Nat
  | [] => 0
  | .send _ :: es => sendCount es + 1
  | .ind _ _ :: es => sendCount es

/-! ## Message records, as the tables of 30_encoding.md give them -/

/-- The bytes `MSG[0 .. S−2]` of the boot-page-write Message of group `g` (table R85, zero fill R88). -/
def bootPageBody (s : State) (g : Nat) : List Byte :=
  (List.range (s.cfg.lay.S - 1)).map fun k =>
    if k = s.cfg.lay.typeOff then s.cfg.mtBootpgmPage
    else if k = s.cfg.lay.bpAddrOff then s.f.read 2
    else if k = s.cfg.lay.bpOfsOff then BitVec.ofNat 8 (3 * g)
    else if s.cfg.lay.bpDataOff ≤ k ∧ k < s.cfg.lay.bpDataOff + 6 then
      s.f.read (2 + s.cfg.bpDataBase.val + 6 * g + (k - s.cfg.lay.bpDataOff))
    else 0x00

/-- The bytes `MSG[0 .. S−2]` of the GPS-fix-fragment Message of fragment `k` (table R86, zero fill R88). -/
def gpsBody (s : State) (k : Nat) : List Byte :=
  (List.range (s.cfg.lay.S - 1)).map fun a =>
    if a = s.cfg.lay.typeOff then s.cfg.mtGps
    else if s.cfg.lay.gpsOff ≤ a ∧ a < s.cfg.lay.gpsOff + 7 then s.f.read (2 + 7 * k + (a - s.cfg.lay.gpsOff))
    else 0x00

/-- A record: its body and the Transport's checksum of it (R84). -/
def sealed (body : List Byte) : List Byte := body ++ [Config.ckfn body]

/-! ## Sequences of instructions and of steps -/

/-- Instructions one after another, stopping at the first fault or refusal. -/
def execAll : List Instr → State → Host.Outcome State Fault Refusal
  | [], s => .next s
  | i :: is, s =>
    match exec i s with
    | .next t => execAll is t
    | .fault r => .fault r
    | .refused r => .refused r

/-- `k` steps of the machine. -/
def run (k : Nat) (s : State) : Host.Outcome State Fault Refusal := Host.Core.run Sys2Proof.core k s

/-- A list of bytes is a frame (R73): `N` bytes, the sentinel first, XOR zero. -/
def isFrame (n : Nat) (g : List Byte) : Prop :=
  g.length = n ∧ g.head? = some sentinel ∧ g.foldl (· ^^^ ·) 0x00 = 0x00

end Sys2Proof.Machine
end

