-- ==== Sys2Proof/Certificates/Slice0/Obligations.lean ====
section
/-!
DEFINITION. The statements for the provers, in the order of the spec's files. `s.cfg.valid = true` is the condition of
00_scope.md R15 under which the model gives a step; `State.Inv` is the invariant of 10_state.md section 6.
-/

open Sys2Proof Sys2Proof.Machine

/-! ## Encoding (30_encoding.md) -/

/-- Decoding the encoding of a well-formed instruction gives it back, operands included (R74 to R76; DEDUCED, log 12). -/
def Obligations.DecodingInvertsEncoding : Prop :=
  ∀ i : Instr, i.wellFormed = true → decode (encode i) = .ok i

/-- A code as long as the encoding of what it decodes to is that encoding, and what it decodes to is well formed. -/
def Obligations.EncodingInvertsDecoding : Prop :=
  ∀ (c : Code) (i : Instr), decode c = .ok i → c.bytes.length = (encode i).bytes.length →
    i.wellFormed = true ∧ encode i = c

/-- A header that decodes lies in the table row of its instruction and in no other row of the table (R74 to R76). -/
def Obligations.AcceptedHeaderLiesInOneTableRow : Prop :=
  ∀ (h : Header) (i : Instr),
    decode ⟨.frameHdr16, [h.extractLsb' 8 8, h.extractLsb' 0 8]⟩ = .ok i →
      ∃ r, headerRow i = some r ∧ r.holds h = true ∧
        ∀ (j : Instr) (r' : Row), headerRow j = some r' → r'.holds h = true → r' = r

/-- A frame whose first byte is not the sentinel is no frame, whatever follows (R73, R77). -/
def Obligations.HeaderWithoutSentinelIsRejected : Prop :=
  ∀ (sync t : Byte) (rest : List Byte), sync ≠ 0x55 →
    decode ⟨.frameHdr16, sync :: t :: rest⟩ = .error .notSentinel

/-- Words written out from the opcode table decode to the instructions they stand for (a sanity statement). -/
def Obligations.WrittenOutWordsDecode : Prop :=
  decodeTableWord 16 0x5500 = some .noop ∧
  decodeTableWord 16 0x5502 = some .relayMsg ∧
  decodeTableWord 16 0x5505 = some .relayGps ∧
  decodeTableWord 16 0x5507 = some (.reserved0607 0x07) ∧
  decodeTableWord 16 0x55FF = some (.reserved80FF 0xFF) ∧
  decodeTableWord 8 0x55 = some (.feed 0x55) ∧
  decodeTableWord 1 1 = some .reset

/-! ## A step runs the decoded instruction -/

/-- An arriving byte and the reset input are executed as such; an available frame in the latch, when the Dispatcher is in
IDLE and on turn, is decoded and executed (R111, R145, R161). The schedule moves on by one turn (log 1). -/
def Obligations.StepExecutesTheDecodedInstruction : Prop :=
  ∀ s : State,
    (∀ b rest, s.sched = .arrive b :: rest → step s = exec (.feed b) { s with sched := rest }) ∧
    (∀ rest, s.sched = .reset :: rest → step s = exec .reset { s with sched := rest }) ∧
    (∀ i, s.cfg.valid = true → s.ftype = s.f.read 1 → s.dispatcherTurn = true → s.dstate = .idle → s.fa = true →
      decode ⟨.frameHdr16, s.f.bytes s.cfg.N⟩ = .ok i → step s = exec i { s with sched := s.sched.tail })

/-! ## DECODE: the packet types (42_dispatcher.md) -/

/-- Type 0 (R112): the frame is consumed and nothing else changes. -/
def Obligations.NoopOnlyConsumesItsFrame : Prop :=
  ∀ s : State, s.cfg.valid = true → exec .noop s = .next { s with fa := false, dstate := .idle }

/-- Every reserved type (the spec's decision D9, R130): as Noop. -/
def Obligations.ReservedTypesAreConsumedAndIgnored : Prop :=
  ∀ (s : State) (t : Byte), s.cfg.valid = true →
    ∀ i ∈ [Instr.reserved0607 t, .reserved080F t, .reserved101F t, .reserved203F t, .reserved407F t, .reserved80FF t],
      exec i s = .next { s with fa := false, dstate := .idle }

/-- Type 1 (R113, R114): Decode goes to TGL; TGL flips the boolean, drives line 0 to match, leaves MSG alone and returns to
IDLE, all in one step (the spec's decision D20, log 18). -/
def Obligations.ToggleFrameFlipsAndDrivesLineZero : Prop :=
  ∀ s : State, s.cfg.valid = true →
    exec .toggle s = .next { s with fa := false, dstate := .tgl } ∧
    (s.behaving .tgl →
      step s = .next { s with toggle := !s.toggle, trace := s.trace ++ [.ind .indToggle (!s.toggle)], dstate := .idle,
                              sched := s.sched.tail })

/-- Type 2 (R115): `MSG[0 .. S−2]` is the payload's first bytes, `MSG[S−1]` their checksum; nothing else changes but FA
and DSTATE. -/
def Obligations.RelayMsgCopiesPayloadAndRecomputesChecksum : Prop :=
  ∀ s : State, s.cfg.valid = true → s.msg.wf = true →
    ∃ m : Memory, exec .relayMsg s = .next { s with fa := false, msg := m, dstate := .rmTop } ∧ m.wf = true ∧
      (∀ k, k < s.cfg.lay.S - 1 → m.read k = s.f.read (2 + k)) ∧
      m.read (s.cfg.lay.S - 1) = Config.ckfn ((List.range (s.cfg.lay.S - 1)).map fun k => s.f.read (2 + k)) ∧
      (∀ a, s.cfg.lay.S ≤ a → m.read a = s.msg.read a)

/-- Type 3 (R116): `MSG[0 .. S−1]` is the payload's first `S` bytes, verbatim. -/
def Obligations.RelayRawCopiesPayloadVerbatim : Prop :=
  ∀ s : State, s.cfg.valid = true → s.msg.wf = true →
    ∃ m : Memory, exec .relayRaw s = .next { s with fa := false, msg := m, dstate := .rmTop } ∧ m.wf = true ∧
      (∀ k, k < s.cfg.lay.S → m.read k = s.f.read (2 + k)) ∧
      (∀ a, s.cfg.lay.S ≤ a → m.read a = s.msg.read a)

/-- Types 4 and 5 (the spec's decision D14, R121, R124): Decode only goes to the ENTER state; arrivals stay enabled. -/
def Obligations.BootpageAndGpsFramesGoToTheirEnterState : Prop :=
  ∀ s : State, s.cfg.valid = true →
    exec .relayBootpage s = .next { s with fa := false, dstate := .bpEnter } ∧
    exec .relayGps s = .next { s with fa := false, dstate := .gpsEnter }

/-! ## FEED and RESET (40_detector.md, 41_frame_store.md, 60_exceptions.md, 70_reset_and_hazards.md) -/

/-- An enabled arrival (R91, R93, R95, R102, R145): the window, the checksum and the cursor; PUBLISH exactly when the new
oldest byte is the sentinel and the checksum is zero; everything else unchanged. -/
def Obligations.FeedShiftsTheWindowAndPublishesOnDetection : Prop :=
  ∀ (s : State) (b : Byte), s.cfg.valid = true → s.suppress = false → s.w.wf = true → s.f.wf = true →
    s.head < s.cfg.N →
    ∃ t : State, exec (.feed b) s = .next t ∧
      t = { s with w := t.w, head := t.head, ck := t.ck, f := t.f, ftype := t.ftype, fa := t.fa } ∧
      t.ck = (s.ck ^^^ s.w.read s.head) ^^^ b ∧
      t.w.read s.head = b ∧ (∀ a, a ≠ s.head → t.w.read a = s.w.read a) ∧
      t.head = (s.head + 1) % s.cfg.N ∧
      (t.w.read t.head = 0x55 ∧ t.ck = 0x00 →
        (∀ i, i < s.cfg.N → t.f.read i = t.w.read ((t.head + i) % s.cfg.N)) ∧
        (∀ a, s.cfg.N ≤ a → t.f.read a = s.f.read a) ∧ t.ftype = t.f.read 1 ∧ t.fa = true) ∧
      (¬ (t.w.read t.head = 0x55 ∧ t.ck = 0x00) → t.f = s.f ∧ t.ftype = s.ftype ∧ t.fa = s.fa)

/-- A masked arrival (the spec's decision D11, R147): held while there is room, else lost; nothing else changes. -/
def Obligations.MaskedArrivalIsHeldOrLost : Prop :=
  ∀ (s : State) (b : Byte), s.cfg.valid = true → s.suppress = true →
    (s.hold.length < s.cfg.rxHoldDepth → exec (.feed b) s = .next { s with hold := s.hold ++ [b] }) ∧
    (s.cfg.rxHoldDepth ≤ s.hold.length → exec (.feed b) s = .next s)

/-- RESET (R161; beyond the window its values are the spec's decisions D10 and D11, log 7): every piece of the CORE's
state to its reset value; no event; the configuration and the schedule are not the CORE's (logs 3, 15). -/
def Obligations.ResetInputClearsAllCoreState : Prop :=
  ∀ s : State, s.cfg.valid = true →
    ∃ t : State, exec .reset s = .next t ∧
      (∀ i, t.w.read i = 0x00 ∧ t.f.read i = 0x00 ∧ t.msg.read i = 0x00) ∧
      t.head = 0 ∧ t.ck = 0x00 ∧ t.ftype = 0x00 ∧ t.fa = false ∧ t.toggle = false ∧ t.cnt = 0 ∧ t.dstate = .idle ∧
      t.suppress = false ∧ t.hold = [] ∧ t.cfg = s.cfg ∧ t.sched = s.sched ∧ t.trace = s.trace

/-- The state after reset (R161 and the defaults of R6 to R13; log 7): its values, a valid configuration, an empty trace. -/
def Obligations.ResetStateHoldsTheResetValues : Prop :=
  (∀ i, State.reset.w.read i = 0x00 ∧ State.reset.f.read i = 0x00 ∧ State.reset.msg.read i = 0x00) ∧
  State.reset.head = 0 ∧ State.reset.ck = 0x00 ∧ State.reset.ftype = 0x00 ∧ State.reset.fa = false ∧
  State.reset.toggle = false ∧ State.reset.cnt = 0 ∧ State.reset.dstate = .idle ∧ State.reset.suppress = false ∧
  State.reset.hold = [] ∧ State.reset.trace = [] ∧ State.reset.cfg.N = 132 ∧ State.reset.cfg.valid = true

/-! ## Behaviour steps (42_dispatcher.md) -/

/-- RM_TOP (R117): leave on a fresh frame without consuming it, else go round. -/
def Obligations.RelayLoopTopLeavesOnAFreshFrame : Prop :=
  ∀ s : State, s.cfg.valid = true → s.behaving .rmTop →
    step s = .next { s with dstate := if s.fa then .idle else .rmOn, sched := s.sched.tail }

/-- RM_SEND (R119): the whole Message buffer is sent, in index order. -/
def Obligations.RelayLoopSendsTheMessageBuffer : Prop :=
  ∀ s : State, s.cfg.valid = true → s.behaving .rmSend →
    step s = .next { s with trace := s.trace ++ [.send ((List.range s.cfg.lay.S).map s.msg.read)], dstate := .rmOff,
                            sched := s.sched.tail }

/-- RM_ON, RM_OFF, X_PULSE_ON, X_PULSE_OFF (the spec's decisions D15 and D19; R118, R120, R128, R129): line 1 on or off. -/
def Obligations.PulseStepsDriveLineOne : Prop :=
  ∀ s : State, s.cfg.valid = true → ∀ d e v,
    (d, e, v) ∈ [(DState.rmOn, DState.rmSend, true), (.rmOff, .rmTop, false), (.xPulseOn, .xPulseOff, true),
      (.xPulseOff, .idle, false)] →
    s.behaving d →
    step s = .next { s with trace := s.trace ++ [.ind .indTx v], dstate := e, sched := s.sched.tail }

/-- BP_ENTER and GPS_ENTER (R122, R125): suppress arrivals, index 0, into the loop. -/
def Obligations.EnterStepsSuppressArrivals : Prop :=
  ∀ s : State, s.cfg.valid = true →
    (s.behaving .bpEnter →
      step s = .next { s with suppress := true, cnt := 0, dstate := .bpLoop, sched := s.sched.tail }) ∧
    (s.behaving .gpsEnter →
      step s = .next { s with suppress := true, cnt := 0, dstate := .gpsLoop, sched := s.sched.tail })

/-- BP_LOOP (R123, with the spec's decision D17): out on the page bound or a fresh frame, else group `CNT`'s record is
built in MSG and sent. -/
def Obligations.BootPageLoopSendsOneGroup : Prop :=
  ∀ s : State, s.cfg.valid = true → s.msg.wf = true → s.behaving .bpLoop →
    (6 * s.cnt ≥ s.cfg.pageSize ∨ s.fa = true →
      step s = .next { s with dstate := .xRelease, sched := s.sched.tail }) ∧
    (6 * s.cnt < s.cfg.pageSize → s.fa = false →
      ∃ m : Memory,
        step s = .next { s with msg := m, cnt := s.cnt + 1, sched := s.sched.tail,
                                trace := s.trace ++ [.send (sealed (bootPageBody s s.cnt))] } ∧
        m.wf = true ∧ m.bytes s.cfg.lay.S = sealed (bootPageBody s s.cnt) ∧
        (∀ a, s.cfg.lay.S ≤ a → m.read a = s.msg.read a))

/-- GPS_LOOP (R126, with the spec's decision D16): out on the payload bound, a fresh frame or an `id` of zero, else
fragment `CNT`'s record is built in MSG and sent. -/
def Obligations.GpsLoopSendsOneFragment : Prop :=
  ∀ s : State, s.cfg.valid = true → s.msg.wf = true → s.behaving .gpsLoop →
    (s.cfg.N - 2 < 7 * s.cnt + 7 ∨ s.fa = true ∨ s.f.read (2 + 7 * s.cnt) = 0x00 →
      step s = .next { s with dstate := .xRelease, sched := s.sched.tail }) ∧
    (7 * s.cnt + 7 ≤ s.cfg.N - 2 → s.fa = false → s.f.read (2 + 7 * s.cnt) ≠ 0x00 →
      ∃ m : Memory,
        step s = .next { s with msg := m, cnt := s.cnt + 1, sched := s.sched.tail,
                                trace := s.trace ++ [.send (sealed (gpsBody s s.cnt))] } ∧
        m.wf = true ∧ m.bytes s.cfg.lay.S = sealed (gpsBody s s.cnt) ∧
        (∀ a, s.cfg.lay.S ≤ a → m.read a = s.msg.read a))

/-- X_RELEASE (R127 with RELEASE_HOLD, the spec's decision D11, R148): arrivals enabled again, then the held bytes are
executed as FEEDs, oldest first, and HOLD is empty. -/
def Obligations.ReleaseFeedsTheHeldBytesInOrder : Prop :=
  ∀ s : State, s.cfg.valid = true → s.behaving .xRelease →
    ∃ u : State,
      execAll (s.hold.map .feed) { s with suppress := false, sched := s.sched.tail } = .next u ∧
      step s = .next { u with hold := [], dstate := .xPulseOn }

/-- IDLE without a frame (R110, the spec's decision D1): the Dispatcher waits and changes nothing. -/
def Obligations.IdleWithoutFrameWaits : Prop :=
  ∀ s : State, s.cfg.valid = true → s.behaving .idle → s.fa = false →
    step s = .next { s with sched := s.sched.tail }

/-! ## Whole-machine rules -/

/-- The invariant holds right after reset. -/
def Obligations.InvariantHoldsAtReset : Prop := State.reset.Inv

/-- Every step, whoever takes it, keeps the invariant of 10_state.md section 6 (R26, R29, R33, R36, R40 to R43). -/
def Obligations.EveryStepKeepsTheInvariant : Prop :=
  ∀ s t : State, s.Inv → step s = .next t → t.Inv

/-- Nothing can fail (R141): no fault exists (the model's empty type, log 16), and with a valid configuration (log 11) every
step and every instruction answers; that waiting in IDLE is a step is the model's choice (log 14). -/
def Obligations.NoStepOfTheCoreCanFail : Prop :=
  ∀ s : State,
    (∀ r, step s ≠ .fault r) ∧ (∀ i r, exec i s ≠ .fault r) ∧
    (s.cfg.valid = true → (∃ t, step s = .next t) ∧ ∀ i, ∃ t, exec i s = .next t)

/-- A configuration that fails R15 gets no step (the spec's decision D12; R20, R142). -/
def Obligations.InvalidConfigurationIsRefused : Prop :=
  ∀ s : State, s.cfg.valid = false →
    step s = .refused .invalidConfig ∧ ∀ i, exec i s = .refused .invalidConfig

/-- A step leaves the configuration alone and appends at most one event, none unless it is the Dispatcher's (R19, R38,
R62). -/
def Obligations.EveryStepEmitsAtMostOneEvent : Prop :=
  ∀ s t : State, step s = .next t →
    t.cfg = s.cfg ∧ t.sched = s.sched.tail ∧
      ∃ es : List Event, t.trace = s.trace ++ es ∧ es.length ≤ 1 ∧ (s.dispatcherTurn = false → es = [])

/-- The transition graph (the spec's decision D27; R109), and the behaviour Decode selects by TYPE (R111). -/
def Obligations.DispatcherFollowsTheTransitionGraph : Prop :=
  ∀ s t : State, step s = .next t → s.dispatcherTurn = true →
    s.dstate.mayGo t.dstate = true ∧
    (s.dstate = .idle → s.fa = true →
      t.fa = false ∧
      t.dstate = (if s.ftype = 0x01 then .tgl else if s.ftype = 0x02 ∨ s.ftype = 0x03 then .rmTop
        else if s.ftype = 0x04 then .bpEnter else if s.ftype = 0x05 then .gpsEnter else .idle))

/-- Ownership (R45): what an arrival may write, what a dispatcher step may write, and what X_RELEASE adds. -/
def Obligations.EachAgentWritesOnlyItsOwnState : Prop :=
  ∀ s t : State, step s = .next t →
    (∀ b rest, s.sched = .arrive b :: rest →
      t = { s with sched := rest, w := t.w, head := t.head, ck := t.ck, f := t.f, ftype := t.ftype, fa := t.fa,
                   hold := t.hold } ∧
      (s.fa = true → t.fa = true) ∧ s.hold <+: t.hold) ∧
    (s.dispatcherTurn = true → s.dstate ≠ .xRelease →
      t = { s with sched := t.sched, fa := t.fa, toggle := t.toggle, msg := t.msg, cnt := t.cnt, dstate := t.dstate,
                   suppress := t.suppress, trace := t.trace } ∧
      (t.fa = true → s.fa = true)) ∧
    (s.dispatcherTurn = true → s.dstate = .xRelease →
      t = { s with sched := t.sched, w := t.w, head := t.head, ck := t.ck, f := t.f, ftype := t.ftype, fa := t.fa,
                   dstate := .xPulseOn, suppress := false, hold := [] } ∧
      (s.fa = true → t.fa = true))

/-- The handshake (R107): `F`, `TYPE` and `FA <- 1` change only where a detection publishes, `FA <- 0` only at a TAKE;
RESET apart. -/
def Obligations.OnlyPublishSetsAndOnlyTakeClears : Prop :=
  ∀ s t : State, step s = .next t → (∀ rest, s.sched ≠ .reset :: rest) →
    (t.f ≠ s.f ∨ t.ftype ≠ s.ftype ∨ (s.fa = false ∧ t.fa = true) →
      t.fa = true ∧
      ((∃ b rest, s.sched = .arrive b :: rest ∧ s.suppress = false ∧ t.w.read t.head = 0x55 ∧ t.ck = 0x00) ∨
       (s.behaving .xRelease ∧ s.hold ≠ []))) ∧
    (s.fa = true ∧ t.fa = false → s.behaving .idle)

/-- Frame stability (R44): while arrivals are suppressed, only X_RELEASE (and RESET) can change the latch. -/
def Obligations.LatchIsStableUnderSuppression : Prop :=
  ∀ s t : State, s.Inv → s.suppress = true → step s = .next t → (∀ rest, s.sched ≠ .reset :: rest) →
    ¬ s.behaving .xRelease → t.f = s.f ∧ t.ftype = s.ftype ∧ t.fa = s.fa

/-- The mask (R146): no FEED runs for a masked arrival, and only the ENTER steps set SUPPRESS, only X_RELEASE (or RESET)
clears it; the relay loops of types 2 and 3 run unmasked. -/
def Obligations.SuppressionCoversExactlyTheTwoLoops : Prop :=
  ∀ s t : State, step s = .next t →
    (∀ b rest, s.sched = .arrive b :: rest → s.suppress = true →
      t.w = s.w ∧ t.head = s.head ∧ t.ck = s.ck ∧ t.f = s.f ∧ t.ftype = s.ftype ∧ t.fa = s.fa) ∧
    (s.suppress = false → t.suppress = true → s.behaving .bpEnter ∨ s.behaving .gpsEnter) ∧
    (s.suppress = true → t.suppress = false → s.behaving .xRelease ∨ ∃ rest, s.sched = .reset :: rest) ∧
    (s.Inv → s.dstate.relaying = true → s.suppress = false)

/-- The loop tests poll and never consume (R131), and a fresh frame ends the loop at the test. -/
def Obligations.LoopTestsPollWithoutConsuming : Prop :=
  ∀ s t : State, s.behaving .rmTop ∨ s.behaving .bpLoop ∨ s.behaving .gpsLoop → step s = .next t →
    t.fa = s.fa ∧ (s.fa = true → t.trace = s.trace ∧ t.msg = s.msg ∧ (t.dstate = .idle ∨ t.dstate = .xRelease))

/-- The Message buffer changes only in the Decode of types 2 and 3 and in the two loops (R137, with the spec's decision
D29), RESET apart. -/
def Obligations.MessageBufferChangesOnlyWhereItIsBuilt : Prop :=
  ∀ s t : State, step s = .next t → t.msg ≠ s.msg →
    (s.behaving .idle ∧ s.fa = true ∧ (s.ftype = 0x02 ∨ s.ftype = 0x03)) ∨ s.behaving .bpLoop ∨ s.behaving .gpsLoop ∨
      ∃ rest, s.sched = .reset :: rest

/-- Line 1 is on only inside a pulse (R139): every step but RESET keeps that. The pulses are the spec's decisions D15 and
D19. -/
def Obligations.TransmitLineIsOnOnlyInsideAPulse : Prop :=
  ∀ s t : State, s.indicatorConsistent → step s = .next t → (∀ rest, s.sched ≠ .reset :: rest) → t.indicatorConsistent

/-- No dispatcher step reads the latch past the frame (R50): replacing what lies at index `N` and beyond changes nothing.
X_RELEASE, which does not read the latch but may overwrite it, is left to ReleaseFeedsTheHeldBytesInOrder. -/
def Obligations.NoDispatcherStepReadsPastTheFrame : Prop :=
  ∀ (s t : State) (f' : Memory), s.dispatcherTurn = true → s.dstate ≠ .xRelease →
    (∀ i, i < s.cfg.N → f'.read i = s.f.read i) → step s = .next t →
      step { s with f := f' } = .next { t with f := f' }

/-- Unread payload (R78, R79, R82; entry I19): a relayed Message depends only on the payload bytes its type copies. -/
def Obligations.UnreadPayloadNeverReachesTheMessage : Prop :=
  ∀ (s : State) (f' : Memory), s.cfg.valid = true →
    ((∀ k, k < s.cfg.lay.S - 1 → f'.read (2 + k) = s.f.read (2 + k)) →
      ∃ t, exec .relayMsg s = .next t ∧ exec .relayMsg { s with f := f' } = .next { t with f := f' }) ∧
    ((∀ k, k < s.cfg.lay.S → f'.read (2 + k) = s.f.read (2 + k)) →
      ∃ t, exec .relayRaw s = .next t ∧ exec .relayRaw { s with f := f' } = .next { t with f := f' })

/-! ## Sequences of arrivals (40_detector.md, 41_frame_store.md) -/

/-- `N` FEEDs bring the cursor back and leave exactly their bytes in the window (R97). -/
def Obligations.NFeedsReplaceTheWholeWindow : Prop :=
  ∀ (s : State) (bs : List Byte), s.cfg.valid = true → s.suppress = false → s.w.wf = true → s.head < s.cfg.N →
    bs.length = s.cfg.N →
    ∃ t, execAll (bs.map .feed) s = .next t ∧ t.head = s.head ∧
      ∀ i (h : i < bs.length), t.w.read ((s.head + i) % s.cfg.N) = bs[i]

/-- A frame is detected at its last byte, from every state and after any bytes before it (R98, R101). -/
def Obligations.EveryWholeFrameIsDetected : Prop :=
  ∀ (s : State) (before g : List Byte), s.Inv → s.suppress = false → isFrame s.cfg.N g →
    ∃ t, execAll ((before ++ g).map .feed) s = .next t ∧
      t.f.bytes s.cfg.N = g ∧ g[1]? = some t.ftype ∧ t.fa = true

/-- With an all-zero window and the cursor at 0, as after reset, the first `N − 1` FEEDs detect nothing (R99). -/
def Obligations.NoDetectionBeforeTheNthByte : Prop :=
  ∀ (s : State) (bs : List Byte), s.cfg.valid = true → s.suppress = false → s.w = [] → s.head = 0 →
    bs.length < s.cfg.N →
    ∃ t, execAll (bs.map .feed) s = .next t ∧ t.fa = s.fa ∧ t.f = s.f ∧ t.ftype = s.ftype

/-- Latest wins (R105): of two frames fed before a Decode, only the second is dispatched, once. -/
def Obligations.OnlyTheLatestFrameIsDispatched : Prop :=
  ∀ (s : State) (g₁ g₂ : List Byte), s.Inv → s.suppress = false → s.dstate = .idle → s.sched = [] →
    isFrame s.cfg.N g₁ → isFrame s.cfg.N g₂ →
    ∃ t i u, execAll ((g₁ ++ g₂).map .feed) s = .next t ∧ t.f.bytes s.cfg.N = g₂ ∧
      decode ⟨.frameHdr16, g₂⟩ = .ok i ∧ step t = exec i t ∧ exec i t = .next u ∧ u.fa = false

/-- A window of sentinels (R172): one more sentinel detects when `N` is even and never when `N` is odd. -/
def Obligations.AllSentinelWindowDetectsWhenNIsEven : Prop :=
  ∀ s : State, s.Inv → s.suppress = false → (∀ i, i < s.cfg.N → s.w.read i = 0x55) →
    ∃ t, exec (.feed 0x55) s = .next t ∧
      (s.cfg.N % 2 = 0 → t.fa = true ∧ t.ftype = 0x55) ∧
      (s.cfg.N % 2 = 1 → t.fa = s.fa ∧ t.f = s.f ∧ t.ftype = s.ftype)

/-! ## Runs of a dispatch (42_dispatcher.md, 70_reset_and_hazards.md) -/

/-- A boot-page dispatch that no fresh frame preceded sends every group once, in order, pulses line 1 and returns to IDLE
(R133, R179), in `NG + 5` steps after its Decode. The pulse and the order of the loop tests are the spec's decisions D15
and D17 (log 18). -/
def Obligations.BootPageDispatchSendsEveryGroupInOrder : Prop :=
  ∀ s : State, s.Inv → s.sched = [] → s.dstate = .bpEnter → s.fa = false →
    ∃ m : Memory, run (s.cfg.NG + 5) s = .next { s with
      msg := m, cnt := s.cfg.NG, dstate := .idle, suppress := false,
      trace := s.trace ++ ((List.range s.cfg.NG).map fun g => .send (sealed (bootPageBody s g))) ++
        [.ind .indTx true, .ind .indTx false] }

/-- A GPS dispatch that no fresh frame preceded sends the fragments before the first zero `id`, or all of them (R134,
R179), in `k + 5` steps after its Decode, `k` the number sent. The pulse, and the loop's bound and test order, are the
spec's decisions D15 and D16 (log 18). -/
def Obligations.GpsDispatchStopsAtTheEndSentinel : Prop :=
  ∀ (s : State) (k : Nat), s.Inv → s.sched = [] → s.dstate = .gpsEnter → s.fa = false →
    k ≤ s.cfg.NF → (∀ j, j < k → s.f.read (2 + 7 * j) ≠ 0x00) → (k = s.cfg.NF ∨ s.f.read (2 + 7 * k) = 0x00) →
    ∃ m : Memory, run (k + 5) s = .next { s with
      msg := m, cnt := k, dstate := .idle, suppress := false,
      trace := s.trace ++ ((List.range k).map fun j => .send (sealed (gpsBody s j))) ++
        [.ind .indTx true, .ind .indTx false] }

/-- A frame published in the gap before the ENTER step (the spec's decision D14) cancels the dispatch: nothing is sent, and
the fresh frame is still available (R132, R167). That line 1 is pulsed all the same is the spec's decision D15 (R128,
R129; log 18). -/
def Obligations.FrameInTheGapCancelsTheDispatch : Prop :=
  ∀ s : State, s.Inv → s.sched = [] → s.dstate = .bpEnter ∨ s.dstate = .gpsEnter → s.fa = true →
    run 5 s = .next { s with cnt := 0, dstate := .idle,
                             trace := s.trace ++ [.ind .indTx true, .ind .indTx false] }

/-- Without a fresh frame the relay loop goes round for ever, each time the same three events (R138), in the four steps of
the spec's decision D19. -/
def Obligations.RelayLoopRepeatsWithoutAFreshFrame : Prop :=
  ∀ (s : State) (k : Nat), s.cfg.valid = true → s.sched = [] → s.dstate = .rmTop → s.fa = false →
    run (4 * k) s = .next { s with
      trace := s.trace ++ (List.replicate k
        [Event.ind .indTx true, .send (s.msg.bytes s.cfg.lay.S), .ind .indTx false]).flatten }

/-- With a fresh frame the relay loop is left within four steps (the spec's decision D19), one Send at most, the frame kept
(R132). -/
def Obligations.FreshFrameEndsTheRelayLoopPromptly : Prop :=
  ∀ s : State, s.cfg.valid = true → s.sched = [] → s.dstate.relaying = true → s.fa = true →
    ∃ k es, k ≤ 4 ∧ sendCount es ≤ 1 ∧ run k s = .next { s with dstate := .idle, trace := s.trace ++ es }

/-- Two toggle dispatches restore TOGGLE and drive line 0 there and back (R135), each in the two steps of the spec's
decision D20. -/
def Obligations.TwoToggleDispatchesRestoreTheIndicator : Prop :=
  ∀ s : State, s.cfg.valid = true → s.sched = [] → s.dstate = .idle → s.fa = true → s.ftype = 0x01 →
    ∃ t, run 2 s = .next t ∧ t.toggle = !s.toggle ∧
      run 2 { t with fa := true } = .next { s with
        fa := false
        trace := s.trace ++ [.ind .indToggle (!s.toggle), .ind .indToggle s.toggle] }

/-- Quiescence (R179): in IDLE with no frame, arrivals are enabled, nothing is held, and without an environment event
nothing ever changes. -/
def Obligations.QuiescentStateWaitsForTheEnvironment : Prop :=
  ∀ (s : State) (k : Nat), s.Inv → s.quiescent →
    s.suppress = false ∧ s.hold = [] ∧ (s.sched = [] → run k s = .next s)
end

