-- ==== Sys2Proof/Laws/Memory.lean ====
section
/-!
SUPPORT. The laws of the byte arrays: canonical form, read after write, copies, slices, and the exclusive-or of a range
(log 6; 20_memory.md R48 to R55; 40_detector.md R92).
-/

namespace Sys2Proof.Machine

/-! ## Canonical form -/

theorem Memory.wf_cons {c : Host.Cell} {m : Memory} :
    Memory.wf (c :: m) = true ↔ c.2 ≠ 0 ∧ (∀ d ∈ m, c.1 < d.1) ∧ m.wf = true := by
  induction m generalizing c with
  | nil => simp [Memory.wf]
  | cons d m ih =>
    rw [Memory.wf, Bool.and_eq_true, Bool.and_eq_true, decide_eq_true_iff, ih]
    simp only [decide_eq_true_iff, List.mem_cons, forall_eq_or_imp]
    constructor
    · rintro ⟨⟨h1, h2⟩, h3, h4, h5⟩
      exact ⟨h1, ⟨h2, fun e he => lt_trans h2 (h4 e he)⟩, h3, h4, h5⟩
    · rintro ⟨h1, ⟨h2, _⟩, h3, h4, h5⟩
      exact ⟨⟨h1, h2⟩, h3, h4, h5⟩

theorem Memory.read_below {m : Memory} {a : Nat} (h : ∀ d ∈ m, a < d.1) : m.read a = 0 := by
  cases m with
  | nil => rfl
  | cons c m => simp [Memory.read, h c (by simp)]

/-- The indices of a write are the old ones and perhaps the written one. -/
theorem Memory.mem_write {m : Memory} {a : Nat} {v : Byte} {d : Host.Cell} (h : d ∈ m.write a v) :
    d ∈ m ∨ d = (a, v) := by
  induction m with
  | nil => by_cases hv : v = 0 <;> simp_all [Memory.write]
  | cons c m ih =>
    rw [Memory.write] at h
    split_ifs at h <;> simp only [List.mem_cons] at h ⊢ <;> tauto

theorem Memory.wf_write {m : Memory} (h : m.wf = true) (a : Nat) (v : Byte) : (m.write a v).wf = true := by
  induction m with
  | nil => by_cases hv : v = 0 <;> simp_all [Memory.write, Memory.wf]
  | cons c m ih =>
    obtain ⟨h1, h2, h3⟩ := Memory.wf_cons.mp h
    rw [Memory.write]
    split_ifs with hlt hv heq hv
    · exact h
    · exact Memory.wf_cons.mpr ⟨hv, by
        intro d hd
        rcases List.mem_cons.mp hd with rfl | hd
        · exact hlt
        · exact lt_trans hlt (h2 d hd), h⟩
    · exact h3
    · exact Memory.wf_cons.mpr ⟨hv, by subst heq; exact h2, h3⟩
    · refine Memory.wf_cons.mpr ⟨h1, fun d hd => ?_, ih h3⟩
      rcases Memory.mem_write hd with hd | rfl
      · exact h2 d hd
      · show c.1 < a
        omega

theorem Memory.within_iff {m : Memory} {n : Nat} : m.within n = true ↔ ∀ d ∈ m, d.1 < n := by
  simp [Memory.within]

theorem Memory.within_write {m : Memory} {n a : Nat} (h : m.within n = true) (ha : a < n) (v : Byte) :
    (m.write a v).within n = true := by
  rw [Memory.within_iff] at h ⊢
  intro d hd
  rcases Memory.mem_write hd with hd | rfl
  · exact h d hd
  · exact ha

/-! ## Read after write -/

theorem Memory.read_write_same {m : Memory} (h : m.wf = true) (a : Nat) (v : Byte) : (m.write a v).read a = v := by
  induction m with
  | nil =>
    rw [Memory.write]
    split_ifs with hv <;> simp [Memory.read, hv]
  | cons c m ih =>
    obtain ⟨_, h2, h3⟩ := Memory.wf_cons.mp h
    rw [Memory.write]
    split_ifs with hlt hv heq hv
    · simp [Memory.read, hlt, hv]
    · simp [Memory.read]
    · subst heq; rw [Memory.read_below h2, hv]
    · simp [Memory.read]
    · simp [Memory.read, hlt, heq, ih h3]

theorem Memory.read_write_other {m : Memory} (h : m.wf = true) {a b : Nat} (hne : b ≠ a) (v : Byte) :
    (m.write a v).read b = m.read b := by
  induction m with
  | nil =>
    rw [Memory.write]
    split_ifs with hv <;> simp [Memory.read, hne]
  | cons c m ih =>
    obtain ⟨_, h2, h3⟩ := Memory.wf_cons.mp h
    rw [Memory.write]
    split_ifs with hlt hv heq hv
    · rfl
    · by_cases hb : b < a
      · simp [Memory.read, hb, lt_trans hb hlt]
      · simp [Memory.read, hb, hne]
    · subst heq
      by_cases hb : b < c.1
      · simp [Memory.read, hb, Memory.read_below (fun d hd => lt_trans hb (h2 d hd))]
      · simp [Memory.read, hb, hne]
    · subst heq
      simp [Memory.read, hne]
    · simp [Memory.read, ih h3]

/-- A read after a write, both cases at once. -/
theorem Memory.read_write {m : Memory} (h : m.wf = true) (a b : Nat) (v : Byte) :
    (m.write a v).read b = if b = a then v else m.read b := by
  by_cases hb : b = a
  · subst hb; simp [Memory.read_write_same h]
  · simp [hb, Memory.read_write_other h hb]

/-- Beyond an array's range everything reads 0x00. -/
theorem Memory.read_of_within {m : Memory} {n a : Nat} (h : m.within n = true) (ha : n ≤ a) : m.read a = 0 := by
  rw [Memory.within_iff] at h
  induction m with
  | nil => rfl
  | cons c m ih =>
    have hc := h c (by simp)
    have h1 : ¬ a < c.1 := by omega
    have h2 : a ≠ c.1 := by omega
    simp [Memory.read, h1, h2, ih (fun d hd => h d (by simp [hd]))]

/-- Canonical arrays that read alike are equal. -/
theorem Memory.ext_read {m n : Memory} (hm : m.wf = true) (hn : n.wf = true) (h : ∀ a, m.read a = n.read a) : m = n := by
  induction m generalizing n with
  | nil =>
    cases n with
    | nil => rfl
    | cons d n =>
      have hd := h d.1
      simp [Memory.read] at hd
      exact absurd hd.symm (Memory.wf_cons.mp hn).1
  | cons c m ih =>
    obtain ⟨hc, hcm, hm'⟩ := Memory.wf_cons.mp hm
    cases n with
    | nil =>
      have hc' := h c.1
      simp [Memory.read] at hc'
      exact absurd hc' hc
    | cons d n =>
      obtain ⟨hd, hdn, hn'⟩ := Memory.wf_cons.mp hn
      have key : c.1 = d.1 := by
        rcases lt_trichotomy c.1 d.1 with hlt | heq | hgt
        · have := h c.1
          simp [Memory.read, hlt] at this
          exact absurd this hc
        · exact heq
        · have := h d.1
          simp [Memory.read, hgt] at this
          exact absurd this.symm hd
      have val : c.2 = d.2 := by
        have := h c.1
        simpa [Memory.read, key] using this
      have tail : m = n := by
        refine ih hm' hn' fun a => ?_
        have ha := h a
        rcases lt_trichotomy a c.1 with hlt | heq | hgt
        · rw [Memory.read_below (fun e he => lt_trans hlt (hcm e he)),
            Memory.read_below (fun e he => lt_trans (key ▸ hlt) (hdn e he))]
        · subst heq
          rw [Memory.read_below hcm, Memory.read_below (key ▸ hdn)]
        · have h1 : ¬ a < c.1 := by omega
          have h2 : a ≠ c.1 := by omega
          have h3 : ¬ a < d.1 := by omega
          have h4 : a ≠ d.1 := by omega
          simpa [Memory.read, h1, h2, h3, h4] using ha
      rw [tail, Prod.ext key val]

/-! ## Copies -/

theorem Memory.wf_copyIn {m : Memory} (h : m.wf = true) (base : Nat) (g : Nat → Byte) (n : Nat) :
    (m.copyIn base g n).wf = true := by
  induction n with
  | zero => exact h
  | succ n ih => exact Memory.wf_write ih _ _

theorem Memory.within_copyIn {m : Memory} {k : Nat} (h : m.within k = true) (base : Nat) (g : Nat → Byte) (n : Nat)
    (hb : base + n ≤ k) : (m.copyIn base g n).within k = true := by
  induction n with
  | zero => exact h
  | succ n ih => exact Memory.within_write (ih (by omega)) (by omega) _

/-- What a copy leaves: the copied bytes in their range, every other byte as before. -/
theorem Memory.read_copyIn {m : Memory} (h : m.wf = true) (base : Nat) (g : Nat → Byte) (n a : Nat) :
    (m.copyIn base g n).read a = if base ≤ a ∧ a < base + n then g (a - base) else m.read a := by
  induction n with
  | zero =>
    have : ¬ (base ≤ a ∧ a < base + 0) := by omega
    simp only [if_neg this]
    rfl
  | succ n ih =>
    rw [Memory.copyIn, Memory.read_write (Memory.wf_copyIn h base g n), ih]
    by_cases ha : a = base + n
    · subst ha
      have : base ≤ base + n ∧ base + n < base + (n + 1) := by omega
      simp only [if_true, if_pos this, Nat.add_sub_cancel_left]
    · by_cases hr : base ≤ a ∧ a < base + n
      · have : base ≤ a ∧ a < base + (n + 1) := by omega
        simp only [if_neg ha, if_pos hr, if_pos this]
      · have : ¬ (base ≤ a ∧ a < base + (n + 1)) := by omega
        simp only [if_neg ha, if_neg hr, if_neg this]

/-! ## Slices -/

@[simp] theorem Memory.length_bytes (m : Memory) (n : Nat) : (m.bytes n).length = n := by simp [Memory.bytes]

theorem Memory.getElem_bytes (m : Memory) (n k : Nat) (h : k < (m.bytes n).length) : (m.bytes n)[k] = m.read k := by
  simp [Memory.bytes]

theorem Memory.bytes_congr {m m' : Memory} {n : Nat} (h : ∀ k, k < n → m.read k = m'.read k) : m.bytes n = m'.bytes n := by
  apply List.map_congr_left
  intro k hk
  exact h k (List.mem_range.mp hk)

/-! ## The exclusive-or of a range -/

theorem xorRange_congr {g g' : Nat → Byte} {n : Nat} (h : ∀ k, k < n → g k = g' k) : xorRange g n = xorRange g' n := by
  induction n with
  | zero => rfl
  | succ n ih => rw [xorRange, xorRange, ih (fun k hk => h k (by omega)), h n (by omega)]

/-- Replacing one value in the range takes the old one out and the new one in (R92). -/
theorem xorRange_update {g g' : Nat → Byte} {n a : Nat} (ha : a < n) (h : ∀ k, k < n → k ≠ a → g' k = g k) :
    xorRange g' n = (xorRange g n ^^^ g a) ^^^ g' a := by
  induction n with
  | zero => omega
  | succ n ih =>
    rw [xorRange, xorRange]
    by_cases hn : n = a
    · subst hn
      rw [xorRange_congr (g := g') (g' := g) (fun k hk => h k (by omega) (by omega)), BitVec.xor_assoc (xorRange g n),
        BitVec.xor_self, BitVec.xor_zero]
    · rw [ih (by omega) (fun k hk => h k (by omega)), h n (by omega) hn]
      ac_rfl

theorem xorRange_succ_left (g : Nat → Byte) (n : Nat) : xorRange g (n + 1) = g 0 ^^^ xorRange (fun k => g (k + 1)) n := by
  induction n with
  | zero => simp [xorRange]
  | succ n ih => rw [xorRange, ih, xorRange, BitVec.xor_assoc]

/-- A rotation of a range has the same exclusive-or (R94). -/
theorem xorRange_rotate (g : Nat → Byte) {n : Nat} (hn : 0 < n) (h : Nat) :
    xorRange (fun i => g ((h + i) % n)) n = xorRange g n := by
  induction h with
  | zero => exact xorRange_congr fun k hk => by simp [Nat.mod_eq_of_lt hk]
  | succ h ih =>
    rw [← ih]
    obtain ⟨m, rfl⟩ : ∃ m, n = m + 1 := ⟨n - 1, by omega⟩
    rw [xorRange_succ_left (fun i => g ((h + i) % (m + 1))), xorRange, BitVec.xor_comm]
    have wrap : (h + 1 + m) % (m + 1) = (h + 0) % (m + 1) := by
      rw [show h + 1 + m = h + 0 + (m + 1) by omega, Nat.add_mod_right]
    rw [wrap]
    congr 1
    exact xorRange_congr fun k _ => by rw [show h + 1 + k = h + (k + 1) by omega]

end Sys2Proof.Machine
end

