-- ==== Sys2Proof/Laws/State.lean ====
section
/-!
SUPPORT. One lemma per field of State and named update, true by rfl: no later proof unfolds a record update.
-/

namespace Sys2Proof.Machine

/-! ## `FA <- 1` (R102) -/

@[simp] theorem State.setFA_cfg (s : State) : s.setFA.cfg = s.cfg := rfl
@[simp] theorem State.setFA_w (s : State) : s.setFA.w = s.w := rfl
@[simp] theorem State.setFA_head (s : State) : s.setFA.head = s.head := rfl
@[simp] theorem State.setFA_ck (s : State) : s.setFA.ck = s.ck := rfl
@[simp] theorem State.setFA_f (s : State) : s.setFA.f = s.f := rfl
@[simp] theorem State.setFA_ftype (s : State) : s.setFA.ftype = s.ftype := rfl
@[simp] theorem State.setFA_fa (s : State) : s.setFA.fa = true := rfl
@[simp] theorem State.setFA_toggle (s : State) : s.setFA.toggle = s.toggle := rfl
@[simp] theorem State.setFA_msg (s : State) : s.setFA.msg = s.msg := rfl
@[simp] theorem State.setFA_cnt (s : State) : s.setFA.cnt = s.cnt := rfl
@[simp] theorem State.setFA_dstate (s : State) : s.setFA.dstate = s.dstate := rfl
@[simp] theorem State.setFA_suppress (s : State) : s.setFA.suppress = s.suppress := rfl
@[simp] theorem State.setFA_hold (s : State) : s.setFA.hold = s.hold := rfl
@[simp] theorem State.setFA_sched (s : State) : s.setFA.sched = s.sched := rfl
@[simp] theorem State.setFA_trace (s : State) : s.setFA.trace = s.trace := rfl

/-! ## TAKE (R103) -/

@[simp] theorem State.take_cfg (s : State) : s.take.cfg = s.cfg := rfl
@[simp] theorem State.take_w (s : State) : s.take.w = s.w := rfl
@[simp] theorem State.take_head (s : State) : s.take.head = s.head := rfl
@[simp] theorem State.take_ck (s : State) : s.take.ck = s.ck := rfl
@[simp] theorem State.take_f (s : State) : s.take.f = s.f := rfl
@[simp] theorem State.take_ftype (s : State) : s.take.ftype = s.ftype := rfl
@[simp] theorem State.take_fa (s : State) : s.take.fa = false := rfl
@[simp] theorem State.take_toggle (s : State) : s.take.toggle = s.toggle := rfl
@[simp] theorem State.take_msg (s : State) : s.take.msg = s.msg := rfl
@[simp] theorem State.take_cnt (s : State) : s.take.cnt = s.cnt := rfl
@[simp] theorem State.take_dstate (s : State) : s.take.dstate = s.dstate := rfl
@[simp] theorem State.take_suppress (s : State) : s.take.suppress = s.suppress := rfl
@[simp] theorem State.take_hold (s : State) : s.take.hold = s.hold := rfl
@[simp] theorem State.take_sched (s : State) : s.take.sched = s.sched := rfl
@[simp] theorem State.take_trace (s : State) : s.take.trace = s.trace := rfl

/-! ## `TOGGLE <- 1 − TOGGLE` (R114) -/

@[simp] theorem State.flipToggle_cfg (s : State) : s.flipToggle.cfg = s.cfg := rfl
@[simp] theorem State.flipToggle_w (s : State) : s.flipToggle.w = s.w := rfl
@[simp] theorem State.flipToggle_head (s : State) : s.flipToggle.head = s.head := rfl
@[simp] theorem State.flipToggle_ck (s : State) : s.flipToggle.ck = s.ck := rfl
@[simp] theorem State.flipToggle_f (s : State) : s.flipToggle.f = s.f := rfl
@[simp] theorem State.flipToggle_ftype (s : State) : s.flipToggle.ftype = s.ftype := rfl
@[simp] theorem State.flipToggle_fa (s : State) : s.flipToggle.fa = s.fa := rfl
@[simp] theorem State.flipToggle_toggle (s : State) : s.flipToggle.toggle = !s.toggle := rfl
@[simp] theorem State.flipToggle_msg (s : State) : s.flipToggle.msg = s.msg := rfl
@[simp] theorem State.flipToggle_cnt (s : State) : s.flipToggle.cnt = s.cnt := rfl
@[simp] theorem State.flipToggle_dstate (s : State) : s.flipToggle.dstate = s.dstate := rfl
@[simp] theorem State.flipToggle_suppress (s : State) : s.flipToggle.suppress = s.suppress := rfl
@[simp] theorem State.flipToggle_hold (s : State) : s.flipToggle.hold = s.hold := rfl
@[simp] theorem State.flipToggle_sched (s : State) : s.flipToggle.sched = s.sched := rfl
@[simp] theorem State.flipToggle_trace (s : State) : s.flipToggle.trace = s.trace := rfl

/-! ## `SUPPRESS <- 1` (R122, R125) -/

@[simp] theorem State.setSuppress_cfg (s : State) : s.setSuppress.cfg = s.cfg := rfl
@[simp] theorem State.setSuppress_w (s : State) : s.setSuppress.w = s.w := rfl
@[simp] theorem State.setSuppress_head (s : State) : s.setSuppress.head = s.head := rfl
@[simp] theorem State.setSuppress_ck (s : State) : s.setSuppress.ck = s.ck := rfl
@[simp] theorem State.setSuppress_f (s : State) : s.setSuppress.f = s.f := rfl
@[simp] theorem State.setSuppress_ftype (s : State) : s.setSuppress.ftype = s.ftype := rfl
@[simp] theorem State.setSuppress_fa (s : State) : s.setSuppress.fa = s.fa := rfl
@[simp] theorem State.setSuppress_toggle (s : State) : s.setSuppress.toggle = s.toggle := rfl
@[simp] theorem State.setSuppress_msg (s : State) : s.setSuppress.msg = s.msg := rfl
@[simp] theorem State.setSuppress_cnt (s : State) : s.setSuppress.cnt = s.cnt := rfl
@[simp] theorem State.setSuppress_dstate (s : State) : s.setSuppress.dstate = s.dstate := rfl
@[simp] theorem State.setSuppress_suppress (s : State) : s.setSuppress.suppress = true := rfl
@[simp] theorem State.setSuppress_hold (s : State) : s.setSuppress.hold = s.hold := rfl
@[simp] theorem State.setSuppress_sched (s : State) : s.setSuppress.sched = s.sched := rfl
@[simp] theorem State.setSuppress_trace (s : State) : s.setSuppress.trace = s.trace := rfl

/-! ## `SUPPRESS <- 0` (R127) -/

@[simp] theorem State.clearSuppress_cfg (s : State) : s.clearSuppress.cfg = s.cfg := rfl
@[simp] theorem State.clearSuppress_w (s : State) : s.clearSuppress.w = s.w := rfl
@[simp] theorem State.clearSuppress_head (s : State) : s.clearSuppress.head = s.head := rfl
@[simp] theorem State.clearSuppress_ck (s : State) : s.clearSuppress.ck = s.ck := rfl
@[simp] theorem State.clearSuppress_f (s : State) : s.clearSuppress.f = s.f := rfl
@[simp] theorem State.clearSuppress_ftype (s : State) : s.clearSuppress.ftype = s.ftype := rfl
@[simp] theorem State.clearSuppress_fa (s : State) : s.clearSuppress.fa = s.fa := rfl
@[simp] theorem State.clearSuppress_toggle (s : State) : s.clearSuppress.toggle = s.toggle := rfl
@[simp] theorem State.clearSuppress_msg (s : State) : s.clearSuppress.msg = s.msg := rfl
@[simp] theorem State.clearSuppress_cnt (s : State) : s.clearSuppress.cnt = s.cnt := rfl
@[simp] theorem State.clearSuppress_dstate (s : State) : s.clearSuppress.dstate = s.dstate := rfl
@[simp] theorem State.clearSuppress_suppress (s : State) : s.clearSuppress.suppress = false := rfl
@[simp] theorem State.clearSuppress_hold (s : State) : s.clearSuppress.hold = s.hold := rfl
@[simp] theorem State.clearSuppress_sched (s : State) : s.clearSuppress.sched = s.sched := rfl
@[simp] theorem State.clearSuppress_trace (s : State) : s.clearSuppress.trace = s.trace := rfl

/-! ## `emit` (R19) -/

@[simp] theorem State.emit_cfg (s : State) (e : Event) : (s.emit e).cfg = s.cfg := rfl
@[simp] theorem State.emit_w (s : State) (e : Event) : (s.emit e).w = s.w := rfl
@[simp] theorem State.emit_head (s : State) (e : Event) : (s.emit e).head = s.head := rfl
@[simp] theorem State.emit_ck (s : State) (e : Event) : (s.emit e).ck = s.ck := rfl
@[simp] theorem State.emit_f (s : State) (e : Event) : (s.emit e).f = s.f := rfl
@[simp] theorem State.emit_ftype (s : State) (e : Event) : (s.emit e).ftype = s.ftype := rfl
@[simp] theorem State.emit_fa (s : State) (e : Event) : (s.emit e).fa = s.fa := rfl
@[simp] theorem State.emit_toggle (s : State) (e : Event) : (s.emit e).toggle = s.toggle := rfl
@[simp] theorem State.emit_msg (s : State) (e : Event) : (s.emit e).msg = s.msg := rfl
@[simp] theorem State.emit_cnt (s : State) (e : Event) : (s.emit e).cnt = s.cnt := rfl
@[simp] theorem State.emit_dstate (s : State) (e : Event) : (s.emit e).dstate = s.dstate := rfl
@[simp] theorem State.emit_suppress (s : State) (e : Event) : (s.emit e).suppress = s.suppress := rfl
@[simp] theorem State.emit_hold (s : State) (e : Event) : (s.emit e).hold = s.hold := rfl
@[simp] theorem State.emit_sched (s : State) (e : Event) : (s.emit e).sched = s.sched := rfl
@[simp] theorem State.emit_trace (s : State) (e : Event) : (s.emit e).trace = s.trace ++ [e] := rfl

/-! ## `DSTATE <- d` (R18) -/

@[simp] theorem State.goto_cfg (s : State) (d : DState) : (s.goto d).cfg = s.cfg := rfl
@[simp] theorem State.goto_w (s : State) (d : DState) : (s.goto d).w = s.w := rfl
@[simp] theorem State.goto_head (s : State) (d : DState) : (s.goto d).head = s.head := rfl
@[simp] theorem State.goto_ck (s : State) (d : DState) : (s.goto d).ck = s.ck := rfl
@[simp] theorem State.goto_f (s : State) (d : DState) : (s.goto d).f = s.f := rfl
@[simp] theorem State.goto_ftype (s : State) (d : DState) : (s.goto d).ftype = s.ftype := rfl
@[simp] theorem State.goto_fa (s : State) (d : DState) : (s.goto d).fa = s.fa := rfl
@[simp] theorem State.goto_toggle (s : State) (d : DState) : (s.goto d).toggle = s.toggle := rfl
@[simp] theorem State.goto_msg (s : State) (d : DState) : (s.goto d).msg = s.msg := rfl
@[simp] theorem State.goto_cnt (s : State) (d : DState) : (s.goto d).cnt = s.cnt := rfl
@[simp] theorem State.goto_dstate (s : State) (d : DState) : (s.goto d).dstate = d := rfl
@[simp] theorem State.goto_suppress (s : State) (d : DState) : (s.goto d).suppress = s.suppress := rfl
@[simp] theorem State.goto_hold (s : State) (d : DState) : (s.goto d).hold = s.hold := rfl
@[simp] theorem State.goto_sched (s : State) (d : DState) : (s.goto d).sched = s.sched := rfl
@[simp] theorem State.goto_trace (s : State) (d : DState) : (s.goto d).trace = s.trace := rfl

/-! ## `CNT <- n` (R33) -/

@[simp] theorem State.setCnt_cfg (s : State) (n : Nat) : (s.setCnt n).cfg = s.cfg := rfl
@[simp] theorem State.setCnt_w (s : State) (n : Nat) : (s.setCnt n).w = s.w := rfl
@[simp] theorem State.setCnt_head (s : State) (n : Nat) : (s.setCnt n).head = s.head := rfl
@[simp] theorem State.setCnt_ck (s : State) (n : Nat) : (s.setCnt n).ck = s.ck := rfl
@[simp] theorem State.setCnt_f (s : State) (n : Nat) : (s.setCnt n).f = s.f := rfl
@[simp] theorem State.setCnt_ftype (s : State) (n : Nat) : (s.setCnt n).ftype = s.ftype := rfl
@[simp] theorem State.setCnt_fa (s : State) (n : Nat) : (s.setCnt n).fa = s.fa := rfl
@[simp] theorem State.setCnt_toggle (s : State) (n : Nat) : (s.setCnt n).toggle = s.toggle := rfl
@[simp] theorem State.setCnt_msg (s : State) (n : Nat) : (s.setCnt n).msg = s.msg := rfl
@[simp] theorem State.setCnt_cnt (s : State) (n : Nat) : (s.setCnt n).cnt = n := rfl
@[simp] theorem State.setCnt_dstate (s : State) (n : Nat) : (s.setCnt n).dstate = s.dstate := rfl
@[simp] theorem State.setCnt_suppress (s : State) (n : Nat) : (s.setCnt n).suppress = s.suppress := rfl
@[simp] theorem State.setCnt_hold (s : State) (n : Nat) : (s.setCnt n).hold = s.hold := rfl
@[simp] theorem State.setCnt_sched (s : State) (n : Nat) : (s.setCnt n).sched = s.sched := rfl
@[simp] theorem State.setCnt_trace (s : State) (n : Nat) : (s.setCnt n).trace = s.trace := rfl

/-! ## `MSG <- m` (R32) -/

@[simp] theorem State.setMsg_cfg (s : State) (m : Memory) : (s.setMsg m).cfg = s.cfg := rfl
@[simp] theorem State.setMsg_w (s : State) (m : Memory) : (s.setMsg m).w = s.w := rfl
@[simp] theorem State.setMsg_head (s : State) (m : Memory) : (s.setMsg m).head = s.head := rfl
@[simp] theorem State.setMsg_ck (s : State) (m : Memory) : (s.setMsg m).ck = s.ck := rfl
@[simp] theorem State.setMsg_f (s : State) (m : Memory) : (s.setMsg m).f = s.f := rfl
@[simp] theorem State.setMsg_ftype (s : State) (m : Memory) : (s.setMsg m).ftype = s.ftype := rfl
@[simp] theorem State.setMsg_fa (s : State) (m : Memory) : (s.setMsg m).fa = s.fa := rfl
@[simp] theorem State.setMsg_toggle (s : State) (m : Memory) : (s.setMsg m).toggle = s.toggle := rfl
@[simp] theorem State.setMsg_msg (s : State) (m : Memory) : (s.setMsg m).msg = m := rfl
@[simp] theorem State.setMsg_cnt (s : State) (m : Memory) : (s.setMsg m).cnt = s.cnt := rfl
@[simp] theorem State.setMsg_dstate (s : State) (m : Memory) : (s.setMsg m).dstate = s.dstate := rfl
@[simp] theorem State.setMsg_suppress (s : State) (m : Memory) : (s.setMsg m).suppress = s.suppress := rfl
@[simp] theorem State.setMsg_hold (s : State) (m : Memory) : (s.setMsg m).hold = s.hold := rfl
@[simp] theorem State.setMsg_sched (s : State) (m : Memory) : (s.setMsg m).sched = s.sched := rfl
@[simp] theorem State.setMsg_trace (s : State) (m : Memory) : (s.setMsg m).trace = s.trace := rfl

/-! ## `emit Send` (R58) -/

@[simp] theorem State.send_cfg (s : State) : s.send.cfg = s.cfg := rfl
@[simp] theorem State.send_w (s : State) : s.send.w = s.w := rfl
@[simp] theorem State.send_head (s : State) : s.send.head = s.head := rfl
@[simp] theorem State.send_ck (s : State) : s.send.ck = s.ck := rfl
@[simp] theorem State.send_f (s : State) : s.send.f = s.f := rfl
@[simp] theorem State.send_ftype (s : State) : s.send.ftype = s.ftype := rfl
@[simp] theorem State.send_fa (s : State) : s.send.fa = s.fa := rfl
@[simp] theorem State.send_toggle (s : State) : s.send.toggle = s.toggle := rfl
@[simp] theorem State.send_msg (s : State) : s.send.msg = s.msg := rfl
@[simp] theorem State.send_cnt (s : State) : s.send.cnt = s.cnt := rfl
@[simp] theorem State.send_dstate (s : State) : s.send.dstate = s.dstate := rfl
@[simp] theorem State.send_suppress (s : State) : s.send.suppress = s.suppress := rfl
@[simp] theorem State.send_hold (s : State) : s.send.hold = s.hold := rfl
@[simp] theorem State.send_sched (s : State) : s.send.sched = s.sched := rfl
@[simp] theorem State.send_trace (s : State) : s.send.trace = s.trace ++ [.send (s.msg.bytes s.cfg.lay.S)] := rfl

/-! ## FEED's steps 1 to 3 (R91) -/

@[simp] theorem State.shiftIn_cfg (s : State) (b : Byte) : (s.shiftIn b).cfg = s.cfg := rfl
@[simp] theorem State.shiftIn_w (s : State) (b : Byte) : (s.shiftIn b).w = s.w.write (s.head % s.cfg.N) b := rfl
@[simp] theorem State.shiftIn_head (s : State) (b : Byte) : (s.shiftIn b).head = (s.head + 1) % s.cfg.N := rfl
@[simp] theorem State.shiftIn_ck (s : State) (b : Byte) : (s.shiftIn b).ck = (s.ck ^^^ s.w.read (s.head % s.cfg.N)) ^^^ b := rfl
@[simp] theorem State.shiftIn_f (s : State) (b : Byte) : (s.shiftIn b).f = s.f := rfl
@[simp] theorem State.shiftIn_ftype (s : State) (b : Byte) : (s.shiftIn b).ftype = s.ftype := rfl
@[simp] theorem State.shiftIn_fa (s : State) (b : Byte) : (s.shiftIn b).fa = s.fa := rfl
@[simp] theorem State.shiftIn_toggle (s : State) (b : Byte) : (s.shiftIn b).toggle = s.toggle := rfl
@[simp] theorem State.shiftIn_msg (s : State) (b : Byte) : (s.shiftIn b).msg = s.msg := rfl
@[simp] theorem State.shiftIn_cnt (s : State) (b : Byte) : (s.shiftIn b).cnt = s.cnt := rfl
@[simp] theorem State.shiftIn_dstate (s : State) (b : Byte) : (s.shiftIn b).dstate = s.dstate := rfl
@[simp] theorem State.shiftIn_suppress (s : State) (b : Byte) : (s.shiftIn b).suppress = s.suppress := rfl
@[simp] theorem State.shiftIn_hold (s : State) (b : Byte) : (s.shiftIn b).hold = s.hold := rfl
@[simp] theorem State.shiftIn_sched (s : State) (b : Byte) : (s.shiftIn b).sched = s.sched := rfl
@[simp] theorem State.shiftIn_trace (s : State) (b : Byte) : (s.shiftIn b).trace = s.trace := rfl

/-! ## PUBLISH (R102) -/

@[simp] theorem State.publish_cfg (s : State) : s.publish.cfg = s.cfg := rfl
@[simp] theorem State.publish_w (s : State) : s.publish.w = s.w := rfl
@[simp] theorem State.publish_head (s : State) : s.publish.head = s.head := rfl
@[simp] theorem State.publish_ck (s : State) : s.publish.ck = s.ck := rfl
@[simp] theorem State.publish_f (s : State) : s.publish.f = s.f.copyIn 0 (fun i => s.w.read ((s.head + i) % s.cfg.N)) s.cfg.N := rfl
@[simp] theorem State.publish_ftype (s : State) : s.publish.ftype = (s.f.copyIn 0 (fun i => s.w.read ((s.head + i) % s.cfg.N)) s.cfg.N).read 1 := rfl
@[simp] theorem State.publish_fa (s : State) : s.publish.fa = true := rfl
@[simp] theorem State.publish_toggle (s : State) : s.publish.toggle = s.toggle := rfl
@[simp] theorem State.publish_msg (s : State) : s.publish.msg = s.msg := rfl
@[simp] theorem State.publish_cnt (s : State) : s.publish.cnt = s.cnt := rfl
@[simp] theorem State.publish_dstate (s : State) : s.publish.dstate = s.dstate := rfl
@[simp] theorem State.publish_suppress (s : State) : s.publish.suppress = s.suppress := rfl
@[simp] theorem State.publish_hold (s : State) : s.publish.hold = s.hold := rfl
@[simp] theorem State.publish_sched (s : State) : s.publish.sched = s.sched := rfl
@[simp] theorem State.publish_trace (s : State) : s.publish.trace = s.trace := rfl

/-! ## the schedule moves on (log 1) -/

@[simp] theorem State.takeTurn_cfg (s : State) : s.takeTurn.cfg = s.cfg := rfl
@[simp] theorem State.takeTurn_w (s : State) : s.takeTurn.w = s.w := rfl
@[simp] theorem State.takeTurn_head (s : State) : s.takeTurn.head = s.head := rfl
@[simp] theorem State.takeTurn_ck (s : State) : s.takeTurn.ck = s.ck := rfl
@[simp] theorem State.takeTurn_f (s : State) : s.takeTurn.f = s.f := rfl
@[simp] theorem State.takeTurn_ftype (s : State) : s.takeTurn.ftype = s.ftype := rfl
@[simp] theorem State.takeTurn_fa (s : State) : s.takeTurn.fa = s.fa := rfl
@[simp] theorem State.takeTurn_toggle (s : State) : s.takeTurn.toggle = s.toggle := rfl
@[simp] theorem State.takeTurn_msg (s : State) : s.takeTurn.msg = s.msg := rfl
@[simp] theorem State.takeTurn_cnt (s : State) : s.takeTurn.cnt = s.cnt := rfl
@[simp] theorem State.takeTurn_dstate (s : State) : s.takeTurn.dstate = s.dstate := rfl
@[simp] theorem State.takeTurn_suppress (s : State) : s.takeTurn.suppress = s.suppress := rfl
@[simp] theorem State.takeTurn_hold (s : State) : s.takeTurn.hold = s.hold := rfl
@[simp] theorem State.takeTurn_sched (s : State) : s.takeTurn.sched = s.sched.tail := rfl
@[simp] theorem State.takeTurn_trace (s : State) : s.takeTurn.trace = s.trace := rfl

/-! ## RESET (R161) -/

@[simp] theorem State.toReset_cfg (s : State) : s.toReset.cfg = s.cfg := rfl
@[simp] theorem State.toReset_w (s : State) : s.toReset.w = [] := rfl
@[simp] theorem State.toReset_head (s : State) : s.toReset.head = 0 := rfl
@[simp] theorem State.toReset_ck (s : State) : s.toReset.ck = 0 := rfl
@[simp] theorem State.toReset_f (s : State) : s.toReset.f = [] := rfl
@[simp] theorem State.toReset_ftype (s : State) : s.toReset.ftype = 0 := rfl
@[simp] theorem State.toReset_fa (s : State) : s.toReset.fa = false := rfl
@[simp] theorem State.toReset_toggle (s : State) : s.toReset.toggle = false := rfl
@[simp] theorem State.toReset_msg (s : State) : s.toReset.msg = [] := rfl
@[simp] theorem State.toReset_cnt (s : State) : s.toReset.cnt = 0 := rfl
@[simp] theorem State.toReset_dstate (s : State) : s.toReset.dstate = .idle := rfl
@[simp] theorem State.toReset_suppress (s : State) : s.toReset.suppress = false := rfl
@[simp] theorem State.toReset_hold (s : State) : s.toReset.hold = [] := rfl
@[simp] theorem State.toReset_sched (s : State) : s.toReset.sched = s.sched := rfl
@[simp] theorem State.toReset_trace (s : State) : s.toReset.trace = s.trace := rfl

end Sys2Proof.Machine
end

