-- ==== Sys2Proof/Laws/Ops.lean ====
section
/-!
SUPPORT. What each shared operation can do, said once: completion under the configuration (00_scope.md R20), FEED
(40_detector.md R91 to R97), arrivals (60_exceptions.md R145, R147) and their release (R148).
-/

namespace Sys2Proof.Machine

/-! ## Completion -/

theorem State.complete_of_valid {s : State} (h : s.cfg.valid = true) (t : State) : s.complete t = .next t := by
  simp [State.complete, h]

theorem State.complete_of_invalid {s : State} (h : s.cfg.valid = false) (t : State) :
    s.complete t = .refused .invalidConfig := by
  simp [State.complete, h]

/-- A completed step has a valid configuration and is the one given. -/
theorem State.complete_eq_next {s t u : State} : s.complete t = .next u ↔ s.cfg.valid = true ∧ t = u := by
  cases h : s.cfg.valid <;> simp [State.complete, h]

/-! ## Validity, as arithmetic -/

/-- R15 read as facts about the parameters. -/
theorem Config.valid_iff {c : Config} : c.valid = true ↔
    c.lay.S + 2 ≤ c.N ∧
    (2 ≤ c.lay.S ∧ c.lay.typeOff + 2 ≤ c.lay.S ∧ c.lay.bpAddrOff + 2 ≤ c.lay.S ∧ c.lay.bpOfsOff + 2 ≤ c.lay.S ∧
      c.lay.bpDataOff + 7 ≤ c.lay.S ∧ c.lay.gpsOff + 8 ≤ c.lay.S) ∧
    (c.lay.typeOff ≠ c.lay.bpAddrOff ∧ c.lay.typeOff ≠ c.lay.bpOfsOff ∧ c.lay.bpAddrOff ≠ c.lay.bpOfsOff) ∧
    (c.lay.typeOff < c.lay.bpDataOff ∨ c.lay.bpDataOff + 6 ≤ c.lay.typeOff) ∧
    (c.lay.bpAddrOff < c.lay.bpDataOff ∨ c.lay.bpDataOff + 6 ≤ c.lay.bpAddrOff) ∧
    (c.lay.bpOfsOff < c.lay.bpDataOff ∨ c.lay.bpDataOff + 6 ≤ c.lay.bpOfsOff) ∧
    (c.lay.typeOff < c.lay.gpsOff ∨ c.lay.gpsOff + 7 ≤ c.lay.typeOff) ∧
    c.bpDataBase.val + 6 * c.NG ≤ c.N - 2 ∧
    (1 ≤ c.NG → 3 * (c.NG - 1) ≤ 255) := by
  simp only [Config.valid, Config.v1, Config.v2Inside, Config.v2Disjoint, Config.v3, Config.v4, Bool.and_eq_true,
    decide_eq_true_iff]
  simp only [and_assoc]

theorem Config.four_le_N {c : Config} (h : c.valid = true) : 4 ≤ c.N := by
  have := Config.valid_iff.mp h
  omega

/-! ## FEED -/

/-- FEED either only shifts the byte in, or also publishes (R93, R95, R96). -/
theorem State.feed_cases (b : Byte) (s : State) :
    ((s.shiftIn b).synchronized = true ∧ s.feed b = (s.shiftIn b).publish) ∨
    ((s.shiftIn b).synchronized = false ∧ s.feed b = s.shiftIn b) := by
  cases h : (s.shiftIn b).synchronized <;> simp [State.feed, h]

theorem State.synchronized_iff {s : State} : s.synchronized = true ↔ s.w.read s.head = sentinel ∧ s.ck = 0 := by
  simp [State.synchronized]

section Feed
variable (s : State) (b : Byte)

@[simp] theorem State.feed_w : (s.feed b).w = s.w.write (s.head % s.cfg.N) b := by
  rcases s.feed_cases b with ⟨_, h⟩ | ⟨_, h⟩ <;> simp [h]

@[simp] theorem State.feed_head : (s.feed b).head = (s.head + 1) % s.cfg.N := by
  rcases s.feed_cases b with ⟨_, h⟩ | ⟨_, h⟩ <;> simp [h]

@[simp] theorem State.feed_ck : (s.feed b).ck = (s.ck ^^^ s.w.read (s.head % s.cfg.N)) ^^^ b := by
  rcases s.feed_cases b with ⟨_, h⟩ | ⟨_, h⟩ <;> simp [h]

@[simp] theorem State.feed_cfg : (s.feed b).cfg = s.cfg := by rcases s.feed_cases b with ⟨_, h⟩ | ⟨_, h⟩ <;> simp [h]
@[simp] theorem State.feed_toggle : (s.feed b).toggle = s.toggle := by
  rcases s.feed_cases b with ⟨_, h⟩ | ⟨_, h⟩ <;> simp [h]
@[simp] theorem State.feed_msg : (s.feed b).msg = s.msg := by rcases s.feed_cases b with ⟨_, h⟩ | ⟨_, h⟩ <;> simp [h]
@[simp] theorem State.feed_cnt : (s.feed b).cnt = s.cnt := by rcases s.feed_cases b with ⟨_, h⟩ | ⟨_, h⟩ <;> simp [h]
@[simp] theorem State.feed_dstate : (s.feed b).dstate = s.dstate := by
  rcases s.feed_cases b with ⟨_, h⟩ | ⟨_, h⟩ <;> simp [h]
@[simp] theorem State.feed_suppress : (s.feed b).suppress = s.suppress := by
  rcases s.feed_cases b with ⟨_, h⟩ | ⟨_, h⟩ <;> simp [h]
@[simp] theorem State.feed_hold : (s.feed b).hold = s.hold := by rcases s.feed_cases b with ⟨_, h⟩ | ⟨_, h⟩ <;> simp [h]
@[simp] theorem State.feed_sched : (s.feed b).sched = s.sched := by rcases s.feed_cases b with ⟨_, h⟩ | ⟨_, h⟩ <;> simp [h]
@[simp] theorem State.feed_trace : (s.feed b).trace = s.trace := by rcases s.feed_cases b with ⟨_, h⟩ | ⟨_, h⟩ <;> simp [h]

/-- A FEED never clears `FA` (R96). -/
theorem State.feed_fa_mono (h : s.fa = true) : (s.feed b).fa = true := by
  rcases s.feed_cases b with ⟨_, e⟩ | ⟨_, e⟩ <;> simp [e, h]

end Feed

/-- A property every FEED keeps is kept by a sequence of them. -/
theorem State.feedAll_induct {P : State → Prop} (step : ∀ s b, P s → P (s.feed b)) (bs : List Byte) {s : State} (h : P s) :
    P (s.feedAll bs) := by
  induction bs generalizing s with
  | nil => exact h
  | cons b bs ih => exact ih (step s b h)

@[simp] theorem State.feedAll_nil (s : State) : s.feedAll [] = s := rfl
@[simp] theorem State.feedAll_cons (s : State) (b : Byte) (bs : List Byte) :
    s.feedAll (b :: bs) = (s.feed b).feedAll bs := rfl

/-- Everything FEED leaves alone (R96, R151), over a whole sequence. -/
theorem State.feedAll_frame (s : State) (bs : List Byte) :
    (s.feedAll bs).cfg = s.cfg ∧ (s.feedAll bs).toggle = s.toggle ∧ (s.feedAll bs).msg = s.msg ∧
    (s.feedAll bs).cnt = s.cnt ∧ (s.feedAll bs).dstate = s.dstate ∧ (s.feedAll bs).suppress = s.suppress ∧
    (s.feedAll bs).hold = s.hold ∧ (s.feedAll bs).sched = s.sched ∧ (s.feedAll bs).trace = s.trace := by
  induction bs generalizing s with
  | nil => simp
  | cons b bs ih => simpa using ih (s.feed b)

/-! ## Arrivals -/

/-- An arrival step, all its cases (R145, R147). -/
theorem State.arrive_cases (b : Byte) (s : State) :
    (s.suppress = false ∧ s.arrive b = s.feed b) ∨
    (s.suppress = true ∧ s.hold.length < s.cfg.rxHoldDepth ∧ s.arrive b = { s with hold := s.hold ++ [b] }) ∨
    (s.suppress = true ∧ s.cfg.rxHoldDepth ≤ s.hold.length ∧ s.arrive b = s) := by
  cases h : s.suppress with
  | false => exact .inl ⟨rfl, by simp [State.arrive, h]⟩
  | true =>
    by_cases hl : s.hold.length < s.cfg.rxHoldDepth
    · exact .inr (.inl ⟨rfl, hl, by simp [State.arrive, State.holdByte, h, hl]⟩)
    · exact .inr (.inr ⟨rfl, by omega, by simp [State.arrive, State.holdByte, h, hl]⟩)

end Sys2Proof.Machine
end

