-- ==== Sys2Proof/Laws/PerInstr.lean ====
section
/-!
SUPPORT. Statements about all instructions, one lemma per constructor. Family TableRow: the encoding of a well-formed
frame instruction lies in its own row of the opcode table (30_encoding.md R74, R75, R76), and the two other inputs have
no header.
-/

namespace Sys2Proof.Laws.TableRow

/-- The bytes of `encode i` are a header of `i`'s own row, or `i` has no header row. -/
def Statement (i : Instr) : Prop :=
  i.wellFormed = true →
    match headerRow i, encode i with
    | some r, ⟨.frameHdr16, [sync, t]⟩ => r.holds (headerOf sync t) = true
    | none, ⟨.rxByte, [_]⟩ => True
    | none, ⟨.resetInput, [_]⟩ => True
    | _, _ => False

/-- A row that holds of every type byte from `lo` on, `len` of them, holds of a type byte in that range. -/
theorem reserved_row (r : Row) (lo len : Nat)
    (h : ∀ n : Fin len, r.holds (headerOf 0x55 (BitVec.ofNat 8 (lo + n.val))) = true) (t : Byte)
    (ht : lo ≤ t.toNat ∧ t.toNat < lo + len) : r.holds (headerOf 0x55 t) = true := by
  have hn := h ⟨t.toNat - lo, by omega⟩
  have ht' : BitVec.ofNat 8 (lo + (t.toNat - lo)) = t := by
    rw [show lo + (t.toNat - lo) = t.toNat by omega, BitVec.ofNat_toNat, BitVec.setWidth_eq]
  rwa [ht'] at hn

theorem noop : Statement .noop := fun _ => rfl
theorem toggle : Statement .toggle := fun _ => rfl
theorem relayMsg : Statement .relayMsg := fun _ => rfl
theorem relayRaw : Statement .relayRaw := fun _ => rfl
theorem relayBootpage : Statement .relayBootpage := fun _ => rfl
theorem relayGps : Statement .relayGps := fun _ => rfl

set_option maxRecDepth 4000 in
theorem reserved0607 (t : Byte) : Statement (.reserved0607 t) := fun h =>
  reserved_row _ 0x06 2 (by decide) t (by have := of_decide_eq_true h; have := t.isLt; omega)

set_option maxRecDepth 4000 in
theorem reserved080F (t : Byte) : Statement (.reserved080F t) := fun h =>
  reserved_row _ 0x08 8 (by decide) t (by have := of_decide_eq_true h; have := t.isLt; omega)

set_option maxRecDepth 4000 in
theorem reserved101F (t : Byte) : Statement (.reserved101F t) := fun h =>
  reserved_row _ 0x10 16 (by decide) t (by have := of_decide_eq_true h; have := t.isLt; omega)

set_option maxRecDepth 4000 in
theorem reserved203F (t : Byte) : Statement (.reserved203F t) := fun h =>
  reserved_row _ 0x20 32 (by decide) t (by have := of_decide_eq_true h; have := t.isLt; omega)

set_option maxRecDepth 4000 in
theorem reserved407F (t : Byte) : Statement (.reserved407F t) := fun h =>
  reserved_row _ 0x40 64 (by decide) t (by have := of_decide_eq_true h; have := t.isLt; omega)

set_option maxRecDepth 4000 in
theorem reserved80FF (t : Byte) : Statement (.reserved80FF t) := fun h =>
  reserved_row _ 0x80 128 (by decide) t (by have := of_decide_eq_true h; have := t.isLt; omega)

theorem feed (b : Byte) : Statement (.feed b) := fun _ => trivial
theorem reset : Statement .reset := fun _ => trivial

end Sys2Proof.Laws.TableRow
end

