-- ==== Sys2Proof/Laws/Step.lean ====
section
/-!
SUPPORT. What exec and step can do, said once: every meaning completes a pure effect, and a step is one of four kinds
(00_scope.md R5, 42_dispatcher.md R109, 60_exceptions.md R154).
-/

namespace Sys2Proof.Machine

/-- The effect of an instruction, apart from the configuration's check. -/
def effect (i : Instr) (s : State) : State :=
  match i with
  | .noop => s.take.goto .idle
  | .toggle => s.take.goto .tgl
  | .relayMsg => (s.take.setMsg s.relayMessage).goto .rmTop
  | .relayRaw => (s.take.setMsg s.rawMessage).goto .rmTop
  | .relayBootpage => s.take.goto .bpEnter
  | .relayGps => s.take.goto .gpsEnter
  | .reserved0607 _ => s.take.goto .idle
  | .reserved080F _ => s.take.goto .idle
  | .reserved101F _ => s.take.goto .idle
  | .reserved203F _ => s.take.goto .idle
  | .reserved407F _ => s.take.goto .idle
  | .reserved80FF _ => s.take.goto .idle
  | .feed b => s.arrive b
  | .reset => s.toReset

theorem exec_eq_complete (i : Instr) (s : State) : exec i s = s.complete (effect i s) := by
  cases i <;> rfl

/-- Every instruction runs under a valid configuration. -/
theorem exec_of_valid {s : State} (h : s.cfg.valid = true) (i : Instr) : exec i s = .next (effect i s) := by
  rw [exec_eq_complete, State.complete_of_valid h]

@[simp] theorem decode?_frame (t : Byte) : decode? ⟨.frameHdr16, [sentinel, t]⟩ = some (instrOfType t) := by
  simp [decode?, decode, decodeFrame]

@[simp] theorem decode?_rx (b : Byte) : decode? ⟨.rxByte, [b]⟩ = some (.feed b) := rfl

@[simp] theorem decode?_reset : decode? ⟨.resetInput, [1#8]⟩ = some .reset := rfl

/-- The four kinds of step. -/
theorem step_kinds (s : State) :
    (∃ b rest, s.sched = .arrive b :: rest ∧ step s = exec (.feed b) s.takeTurn) ∨
    (∃ rest, s.sched = .reset :: rest ∧ step s = exec .reset s.takeTurn) ∨
    (s.dispatcherTurn = true ∧ s.decodeEnabled = true ∧ step s = exec (instrOfType s.ftype) s.takeTurn) ∨
    (s.dispatcherTurn = true ∧ s.decodeEnabled = false ∧ step s = behaviourStep s.takeTurn) := by
  rcases hs : s.sched with _ | ⟨_ | _ | _, rest⟩
  · cases hd : s.decodeEnabled <;> simp [step, State.nextInstr, State.fetch, State.dispatcherTurn, hs, hd]
  · exact .inl ⟨_, rest, rfl, by simp [step, State.nextInstr, State.fetch, hs]⟩
  · exact .inr (.inl ⟨rest, rfl, by simp [step, State.nextInstr, State.fetch, hs]⟩)
  · cases hd : s.decodeEnabled <;> simp [step, State.nextInstr, State.fetch, State.dispatcherTurn, hs, hd]

/-- What a step that answers a next state did. -/
theorem step_cases {s t : State} (h : step s = .next t) :
    s.cfg.valid = true ∧
    ((∃ b rest, s.sched = .arrive b :: rest ∧ t = s.takeTurn.arrive b) ∨
     (∃ rest, s.sched = .reset :: rest ∧ t = s.takeTurn.toReset) ∨
     (s.dispatcherTurn = true ∧ s.decodeEnabled = true ∧ t = effect (instrOfType s.ftype) s.takeTurn) ∨
     (s.dispatcherTurn = true ∧ s.decodeEnabled = false ∧ t = s.takeTurn.behave)) := by
  rcases step_kinds s with ⟨b, rest, h1, h2⟩ | ⟨rest, h1, h2⟩ | ⟨h0, h1, h2⟩ | ⟨h0, h1, h2⟩
  all_goals
    rw [h] at h2
    try rw [exec_eq_complete] at h2
    try rw [behaviourStep] at h2
    obtain ⟨hv, rfl⟩ := State.complete_eq_next.mp h2.symm
    refine ⟨hv, ?_⟩
  · exact .inl ⟨b, rest, h1, rfl⟩
  · exact .inr (.inl ⟨rest, h1, rfl⟩)
  · exact .inr (.inr (.inl ⟨h0, h1, rfl⟩))
  · exact .inr (.inr (.inr ⟨h0, h1, rfl⟩))

/-! ## DECODE and the behaviour steps, arm by arm -/

/-- The Decode step's arms by `TYPE` (R111). -/
theorem decode_arms (t : Byte) (s : State) :
    (t = 0x01 ∧ effect (instrOfType t) s = s.take.goto .tgl) ∨
    (t = 0x02 ∧ effect (instrOfType t) s = (s.take.setMsg s.relayMessage).goto .rmTop) ∨
    (t = 0x03 ∧ effect (instrOfType t) s = (s.take.setMsg s.rawMessage).goto .rmTop) ∨
    (t = 0x04 ∧ effect (instrOfType t) s = s.take.goto .bpEnter) ∨
    (t = 0x05 ∧ effect (instrOfType t) s = s.take.goto .gpsEnter) ∨
    ((t = 0x00 ∨ 0x06 ≤ t.toNat) ∧ effect (instrOfType t) s = s.take.goto .idle) := by
  by_cases h1 : t = 0x01
  · subst h1; exact .inl ⟨rfl, rfl⟩
  by_cases h2 : t = 0x02
  · subst h2; exact .inr (.inl ⟨rfl, rfl⟩)
  by_cases h3 : t = 0x03
  · subst h3; exact .inr (.inr (.inl ⟨rfl, rfl⟩))
  by_cases h4 : t = 0x04
  · subst h4; exact .inr (.inr (.inr (.inl ⟨rfl, rfl⟩)))
  by_cases h5 : t = 0x05
  · subst h5; exact .inr (.inr (.inr (.inr (.inl ⟨rfl, rfl⟩))))
  refine .inr (.inr (.inr (.inr (.inr ⟨?_, ?_⟩))))
  · by_cases h0 : t = 0x00
    · exact .inl h0
    · right; bv_omega
  · have key : ∀ i, instrOfType t = i → effect i s = s.take.goto .idle := by
      rintro i rfl
      rw [instrOfType, if_neg h1, if_neg h2, if_neg h3, if_neg h4, if_neg h5]
      split_ifs <;> rfl
    exact key _ rfl

theorem State.behave_idle {s : State} (h : s.dstate = .idle) : s.behave = s := by rw [State.behave, h]
theorem State.behave_tgl {s : State} (h : s.dstate = .tgl) : s.behave = s.tgl := by rw [State.behave, h]
theorem State.behave_rmTop {s : State} (h : s.dstate = .rmTop) : s.behave = s.rmTop := by rw [State.behave, h]
theorem State.behave_rmOn {s : State} (h : s.dstate = .rmOn) : s.behave = s.rmOn := by rw [State.behave, h]
theorem State.behave_rmSend {s : State} (h : s.dstate = .rmSend) : s.behave = s.rmSend := by rw [State.behave, h]
theorem State.behave_rmOff {s : State} (h : s.dstate = .rmOff) : s.behave = s.rmOff := by rw [State.behave, h]
theorem State.behave_bpEnter {s : State} (h : s.dstate = .bpEnter) : s.behave = s.bpEnter := by rw [State.behave, h]
theorem State.behave_bpLoop {s : State} (h : s.dstate = .bpLoop) : s.behave = s.bpLoop := by rw [State.behave, h]
theorem State.behave_gpsEnter {s : State} (h : s.dstate = .gpsEnter) : s.behave = s.gpsEnter := by rw [State.behave, h]
theorem State.behave_gpsLoop {s : State} (h : s.dstate = .gpsLoop) : s.behave = s.gpsLoop := by rw [State.behave, h]
theorem State.behave_xRelease {s : State} (h : s.dstate = .xRelease) : s.behave = s.xRelease := by rw [State.behave, h]
theorem State.behave_xPulseOn {s : State} (h : s.dstate = .xPulseOn) : s.behave = s.xPulseOn := by rw [State.behave, h]
theorem State.behave_xPulseOff {s : State} (h : s.dstate = .xPulseOff) : s.behave = s.xPulseOff := by
  rw [State.behave, h]

end Sys2Proof.Machine
end

