-- ==== Sys2Proof/Laws/Run.lean ====
section
/-!
SUPPORT. Runs of several steps, and sequences of arrivals: how they unfold and compose (00_scope.md R5).
-/

namespace Sys2Proof.Machine

@[simp] theorem run_zero (s : State) : run 0 s = .next s := rfl

theorem run_succ {s t : State} (h : step s = .next t) (k : Nat) : run (k + 1) s = run k t := by
  have h' : Host.Core.step Sys2Proof.core s = .next t := h
  simp only [run, Host.Core.run, h']
  rfl

/-- A run splits at any point it reaches. -/
theorem run_add {s t : State} (j k : Nat) (h : run j s = .next t) : run (j + k) s = run k t := by
  induction j generalizing s with
  | zero => cases h; rw [Nat.zero_add]
  | succ j ih =>
    cases hs : step s with
    | next u =>
      rw [run_succ hs] at h
      rw [Nat.add_right_comm, run_succ hs]
      exact ih h
    | fault r => exact nomatch r
    | refused r =>
      have hs' : Host.Core.step Sys2Proof.core s = .refused r := hs
      simp only [run, Host.Core.run, hs'] at h
      cases h

/-- With arrivals enabled, executing a sequence of arrivals feeds its bytes (R145). -/
theorem execAll_feed (bs : List Byte) {s : State} (h : s.cfg.valid = true) (hs : s.suppress = false) :
    execAll (bs.map .feed) s = .next (s.feedAll bs) := by
  induction bs generalizing s with
  | nil => rfl
  | cons b bs ih =>
    have hb : exec (.feed b) s = .next (s.feed b) := by
      rw [exec_of_valid h]
      simp [effect, State.arrive, hs]
    simp only [List.map_cons, execAll, hb, State.feedAll_cons]
    exact ih (by simpa using h) (by simpa using hs)

end Sys2Proof.Machine
end

