-- ==== Sys2Proof/Tests/Slice0.lean ====
section
/-!
SUPPORT. Tests: the WellFormed smoke, words written out from the opcode table, single steps with expected values from
spec/95_test_vectors.md (named V<n>), and one witness per statement with hypotheses. Most states use the smallest valid
configuration of that file's section 3.6 (`N = 12`, `PAGE_SIZE = 6`).
-/

namespace Sys2Proof.Tests

open Sys2Proof.Machine

/-! ## Small states -/

/-- The smallest valid configuration, with numbers in the place of the two OPEN tags. -/
def tiny : Config :=
  { N := 12, pageSize := 6, bpDataBase := 1, lay := Layout.reference, mtBootpgmPage := 0xB0, mtGps := 0xC0,
    rxHoldDepth := 1 }

/-- An array with the given bytes from index 0. -/
def array (bs : List Byte) : Memory := Memory.copyIn [] 0 (fun i => bs.getD i 0x00) bs.length

/-- Right after reset, in the smallest configuration. -/
def base : State := { State.reset with cfg := tiny }

/-- After `ARRIVE` of a whole frame: window and latch hold it. -/
def latched (bs : List Byte) : State :=
  { base with w := array bs, f := array bs, ftype := bs.getD 1 0x00, fa := true }

/-- That frame taken, the Dispatcher in `d`. -/
def taken (bs : List Byte) (d : DState) : State :=
  { latched bs with fa := false, dstate := d, suppress := d.suppressed }

/-- The frames of V40, V41 and V42, a noop, a toggle and a reserved frame. -/
def fr0 : List Byte := [0x55, 0x00, 0, 0, 0, 0, 0, 0, 0, 0, 0, 0x55]
def fr1 : List Byte := [0x55, 0x01, 0, 0, 0, 0, 0, 0, 0, 0, 0, 0x54]
def fr2 : List Byte := [0x55, 0x02, 0x10, 0x11, 0x12, 0x13, 0x14, 0x15, 0x16, 0x17, 0x18, 0x4F]
def fr3 : List Byte := [0x55, 0x03, 0x10, 0x11, 0x12, 0x13, 0x14, 0x15, 0x16, 0x17, 0x18, 0x4E]
def fr4 : List Byte := [0x55, 0x04, 0x07, 0x01, 0x02, 0x03, 0x04, 0x05, 0x06, 0, 0, 0x51]
def fr5 : List Byte := [0x55, 0x05, 0x01, 0xA1, 0xA2, 0xA3, 0xA4, 0xA5, 0xA6, 0x02, 0, 0x54]
def fr6 : List Byte := [0x55, 0x06, 0, 0, 0, 0, 0, 0, 0, 0, 0, 0x53]

/-- One value of the next state, none where there is no next state. -/
def after {α : Type} (o : Host.Outcome State Fault Refusal) (g : State → α) : Option α :=
  match o with
  | .next t => some (g t)
  | .fault _ => none
  | .refused _ => none

/-! ## WellFormed: one ill-formed term per check -/

theorem test_wellFormed_refuses_0607 : (Instr.reserved0607 0x08).wellFormed = false ∧ (Instr.reserved0607 0x05).wellFormed = false := by decide
theorem test_wellFormed_refuses_080F : (Instr.reserved080F 0x10).wellFormed = false ∧ (Instr.reserved080F 0x07).wellFormed = false := by decide
theorem test_wellFormed_refuses_101F : (Instr.reserved101F 0x20).wellFormed = false ∧ (Instr.reserved101F 0x0F).wellFormed = false := by decide
theorem test_wellFormed_refuses_203F : (Instr.reserved203F 0x40).wellFormed = false ∧ (Instr.reserved203F 0x1F).wellFormed = false := by decide
theorem test_wellFormed_refuses_407F : (Instr.reserved407F 0x80).wellFormed = false ∧ (Instr.reserved407F 0x3F).wellFormed = false := by decide
theorem test_wellFormed_refuses_80FF : (Instr.reserved80FF 0x7F).wellFormed = false := by decide

/-! ## Decoding: words written out from spec/opcode_table.json (rules R74 to R76) -/

theorem test_word_noop : decodeTableWord 16 0b0101010100000000 = some .noop := by decide
theorem test_word_toggle : decodeTableWord 16 0b0101010100000001 = some .toggle := by decide
theorem test_word_relayMsg : decodeTableWord 16 0b0101010100000010 = some .relayMsg := by decide
theorem test_word_relayRaw : decodeTableWord 16 0b0101010100000011 = some .relayRaw := by decide
theorem test_word_relayBootpage : decodeTableWord 16 0b0101010100000100 = some .relayBootpage := by decide
theorem test_word_relayGps : decodeTableWord 16 0b0101010100000101 = some .relayGps := by decide
theorem test_word_reserved0607 : decodeTableWord 16 0b0101010100000110 = some (.reserved0607 0x06) := by decide
theorem test_word_reserved080F : decodeTableWord 16 0b0101010100001111 = some (.reserved080F 0x0F) := by decide
theorem test_word_reserved101F : decodeTableWord 16 0b0101010100010000 = some (.reserved101F 0x10) := by decide
theorem test_word_reserved203F : decodeTableWord 16 0b0101010100111111 = some (.reserved203F 0x3F) := by decide
theorem test_word_reserved407F : decodeTableWord 16 0b0101010101000000 = some (.reserved407F 0x40) := by decide
theorem test_word_reserved80FF : decodeTableWord 16 0b0101010110000000 = some (.reserved80FF 0x80) := by decide
theorem test_word_feed : decodeTableWord 8 0b10100101 = some (.feed 0xA5) := by decide
theorem test_word_reset : decodeTableWord 1 0b1 = some .reset := by decide

/-- No sentinel, no reset, no such length, too many bits. -/
theorem test_words_rejected :
    decodeTableWord 16 0x5400 = none ∧ decodeTableWord 16 0x0055 = none ∧ decodeTableWord 1 0 = none ∧
    decodeTableWord 9 0 = none ∧ decodeTableWord 16 0x15500 = none ∧ decodeTableWord 8 0x100 = none := by decide

/-- The three ways the decoder rejects. -/
theorem test_rejects_by_name :
    decode ⟨.frameHdr16, [0x55]⟩ = .error .truncated ∧ decode ⟨.frameHdr16, [0x54, 0x01]⟩ = .error .notSentinel ∧
    decode ⟨.rxByte, []⟩ = .error .truncated ∧ decode ⟨.resetInput, [0]⟩ = .error .resetNotAsserted := by
  exact ⟨rfl, rfl, rfl, rfl⟩

/-- A placed word is what the next step runs, from reset. -/
theorem test_placed_words_are_fetched :
    (State.reset.withFetchWord 16 0x5503).nextInstr = some .relayRaw ∧
    (State.reset.withFetchWord 8 0x12).nextInstr = some (.feed 0x12) ∧
    (State.reset.withFetchWord 1 1).nextInstr = some .reset := by decide

/-! ## Configurations (V43, V44, V45; section 3.6) -/

theorem test_tiny_is_valid : tiny.valid = true ∧ tiny.NG = 1 ∧ tiny.NF = 1 := by decide
theorem test_reference_derived : Config.reference.NG = 21 ∧ Config.reference.NF = 18 := by decide
theorem test_v43_short_window_invalid : { Config.reference with N := 11 }.valid = false := by decide
theorem test_v44_long_page_invalid : { Config.reference with pageSize := 128 }.valid = false := by decide
theorem test_v45_overlapping_layout_invalid :
    { Config.reference with lay := { Layout.reference with bpDataOff := 2 } }.valid = false := by decide

/-! ## FEED -/

/-- V1. -/
theorem test_v1_first_byte :
    after (exec (.feed 0x55) State.reset) (fun t => (t.w, t.head, t.ck, t.fa)) = some ([(0, 0x55)], 1, 0x55, false) := by
  decide

/-- V2: the cursor wraps. -/
theorem test_v2_head_wraps :
    after (exec (.feed 0x12) { State.reset with head := 131 }) (fun t => (t.w, t.head, t.ck, t.fa))
      = some ([(131, 0x12)], 0, 0x12, false) := by decide

/-- V3 in the smallest configuration: the last byte of a frame publishes it. -/
theorem test_v3_last_byte_publishes :
    after (exec (.feed 0x54) { base with w := array (fr1.take 11), head := 11, ck := 0x54 })
      (fun t => (t.f.bytes 12, t.ftype, t.fa, t.head, t.ck)) = some (fr1, 0x01, true, 0, 0x00) := by decide

/-- V33: a masked arrival is held, the next one lost. -/
theorem test_v33_held_then_lost :
    after (exec (.feed 0xAA) (taken fr5 .gpsLoop)) (fun t => (t.hold, t.head, t.ck)) = some ([0xAA], 0, 0x00) ∧
    after (exec (.feed 0xBB) { taken fr5 .gpsLoop with hold := [0xAA] }) (fun t => (t.hold, t.head, t.ck))
      = some ([0xAA], 0, 0x00) := by decide

/-! ## RESET -/

/-- V37: nothing is appended to the trace. -/
theorem test_v37_reset :
    after (exec .reset { taken fr2 .rmSend with toggle := true })
      (fun t => (t.w, t.f, t.dstate, t.toggle)) = some ([], [], .idle, false) ∧
    after (exec .reset { taken fr2 .rmSend with msg := [(0, 0x10)], cnt := 1, trace := [.ind .indTx true] })
      (fun t => (t.msg, t.cnt, t.trace)) = some ([], 0, [.ind .indTx true]) := by decide

/-- V38: the held byte is gone. -/
theorem test_v38_reset_drops_hold :
    after (exec .reset { taken fr5 .xRelease with hold := [0xAA] }) (fun t => (t.suppress, t.hold, t.head, t.trace))
      = some (false, [], 0, []) := by decide

/-! ## DECODE -/

/-- V16. -/
theorem test_v16_noop :
    after (step (latched fr0)) (fun t => (t.fa, t.dstate, t.toggle, t.trace)) = some (false, .idle, false, []) := by decide

/-- V12: TAKE, and the latch still holds the frame. -/
theorem test_v12_toggle_decode :
    after (step (latched fr1)) (fun t => (t.fa, t.dstate, t.f.bytes 12)) = some (false, .tgl, fr1) := by decide

/-- V20 in the smallest configuration: the first `S − 1` bytes. -/
theorem test_v20_relayMsg_copies :
    after (step (latched fr2)) (fun t => (t.fa, t.dstate, t.msg.bytes 9))
      = some (false, .rmTop, [0x10, 0x11, 0x12, 0x13, 0x14, 0x15, 0x16, 0x17, 0x18]) := by decide

/-- V40: type 3 copies the frame's own check byte. -/
theorem test_v40_relayRaw_copies :
    after (step (latched fr3)) (fun t => (t.fa, t.dstate, t.msg.bytes 10))
      = some (false, .rmTop, [0x10, 0x11, 0x12, 0x13, 0x14, 0x15, 0x16, 0x17, 0x18, 0x4E]) := by decide

/-- V41 and V42, the first step: arrivals stay enabled. -/
theorem test_v41_v42_decode :
    after (step (latched fr4)) (fun t => (t.fa, t.dstate, t.suppress)) = some (false, .bpEnter, false) ∧
    after (step (latched fr5)) (fun t => (t.fa, t.dstate, t.suppress)) = some (false, .gpsEnter, false) := by decide

/-- V18: a reserved type is ignored. -/
theorem test_v18_reserved :
    after (step (latched fr6)) (fun t => (t.fa, t.dstate, t.ftype, t.trace)) = some (false, .idle, 0x06, []) := by decide

/-! ## Behaviour steps -/

/-- V17, V14: the line follows the boolean. -/
theorem test_v17_v14_tgl :
    after (step (taken fr1 .tgl)) (fun t => (t.toggle, t.dstate, t.trace))
      = some (true, .idle, [.ind .indToggle true]) ∧
    after (step { taken fr1 .tgl with toggle := true }) (fun t => (t.toggle, t.trace))
      = some (false, [.ind .indToggle false]) := by decide

/-- V13: POLL leaves the frame. -/
theorem test_v13_rmTop :
    after (step { latched fr2 with dstate := .rmTop }) (fun t => (t.dstate, t.fa)) = some (.idle, true) := by decide

/-- V40, the Send. -/
theorem test_v40_send :
    after (step { taken fr3 .rmSend with msg := array [0x10, 0x11, 0x12, 0x13, 0x14, 0x15, 0x16, 0x17, 0x18, 0x4E] })
      (fun t => t.trace) = some [.send [0x10, 0x11, 0x12, 0x13, 0x14, 0x15, 0x16, 0x17, 0x18, 0x4E]] := by decide

/-- V41, the group: all but the checksum of the Message. -/
theorem test_v41_group :
    after (step (taken fr4 .bpLoop)) (fun t => (t.cnt, t.msg.bytes 9, t.dstate))
      = some (1, [0xB0, 0x07, 0x00, 0x01, 0x02, 0x03, 0x04, 0x05, 0x06], .bpLoop) := by decide

/-- V42, the fragment: the tag and the seven bytes. -/
theorem test_v42_fragment :
    after (step (taken fr5 .gpsLoop)) (fun t => (t.cnt, t.msg.bytes 8, t.dstate))
      = some (1, [0xC0, 0x01, 0xA1, 0xA2, 0xA3, 0xA4, 0xA5, 0xA6], .gpsLoop) := by decide

/-- V42, the end: the `02` at `F[9]` starts no fragment. -/
theorem test_v42_end :
    after (step { taken fr5 .gpsLoop with cnt := 1 }) (fun t => (t.cnt, t.dstate, t.trace)) = some (1, .xRelease, []) := by
  decide

/-- V22's word offset of the last group, and V33's release: the held byte is fed. -/
theorem test_v22_word_offset : wordOffset 20 = 0x3C := by decide

theorem test_v33_release :
    after (step { taken fr5 .xRelease with hold := [0xAA] })
      (fun t => (t.w.read 0, t.head, t.ck, t.fa)) = some (0xAA, 1, 0xFF, false) ∧
    after (step { taken fr5 .xRelease with hold := [0xAA] }) (fun t => (t.suppress, t.hold, t.dstate))
      = some (false, [], .xPulseOn) := by decide

/-! ## Witnesses of the hypotheses of the statements -/

theorem witness_DecodingInvertsEncoding :
    (Instr.reserved0607 0x06).wellFormed = true ∧ (Instr.reserved0607 0x07).wellFormed = true ∧
    (Instr.reserved80FF 0x80).wellFormed = true ∧ (Instr.reserved80FF 0xFF).wellFormed = true ∧
    (Instr.feed 0x00).wellFormed = true := by decide

theorem witness_EncodingInvertsDecoding :
    decode ⟨.frameHdr16, [0x55, 0x3F]⟩ = .ok (.reserved203F 0x3F) ∧
    ([0x55, 0x3F] : List Byte).length = (encode (.reserved203F 0x3F)).bytes.length := ⟨rfl, rfl⟩

theorem witness_AcceptedHeaderLiesInOneTableRow :
    decode ⟨.frameHdr16, [(0x5506 : Header).extractLsb' 8 8, (0x5506 : Header).extractLsb' 0 8]⟩
      = .ok (.reserved0607 0x06) ∧
    (Row.holds ⟨"RESERVED_06_07", 0x5506, 0xFFFE⟩ 0x5506) = true := ⟨rfl, by decide⟩

theorem witness_HeaderWithoutSentinelIsRejected : (0x54 : Byte) ≠ 0x55 := by decide

theorem witness_StepExecutesTheDecodedInstruction :
    { base with sched := [.arrive 0x55] }.sched = .arrive 0x55 :: [] ∧
    { base with sched := [.reset] }.sched = .reset :: [] ∧
    ((latched fr4).cfg.valid = true ∧ (latched fr4).ftype = (latched fr4).f.read 1 ∧
      (latched fr4).dispatcherTurn = true ∧ (latched fr4).dstate = .idle ∧ (latched fr4).fa = true ∧
      decode ⟨.frameHdr16, (latched fr4).f.bytes (latched fr4).cfg.N⟩ = .ok .relayBootpage) :=
  ⟨rfl, rfl, by decide, by decide, by decide, by decide, by decide, rfl⟩

/-- For the statements whose only hypothesis is a valid configuration (the packet types, RESET, NoStepOfTheCoreCanFail). -/
theorem witness_valid : (latched fr0).cfg.valid = true ∧ State.reset.cfg.valid = true := by decide

theorem witness_ToggleFrameFlipsAndDrivesLineZero :
    (taken fr1 .tgl).cfg.valid = true ∧ (taken fr1 .tgl).behaving .tgl := ⟨by decide, by decide, rfl⟩

theorem witness_RelayMsg_RelayRaw :
    (latched fr2).cfg.valid = true ∧ (latched fr2).msg.wf = true ∧ 8 < (latched fr2).cfg.lay.S - 1 ∧
    9 < (latched fr2).cfg.lay.S := by decide

/-- The two clauses: a detection, and none. -/
theorem witness_FeedShiftsTheWindowAndPublishesOnDetection :
    (tiny.valid = true ∧ (array (fr1.take 11)).wf = true ∧ 11 < tiny.N) ∧
    after (exec (.feed 0x54) { base with w := array (fr1.take 11), head := 11, ck := 0x54 })
      (fun t => (t.w.read t.head, t.ck)) = some (0x55, 0x00) ∧
    after (exec (.feed 0x53) { base with w := array (fr1.take 11), head := 11, ck := 0x54 })
      (fun t => (t.w.read t.head, t.ck)) = some (0x55, 0x07) := by decide

/-- The two clauses: room for one more byte, and no room. -/
theorem witness_MaskedArrivalIsHeldOrLost :
    ((taken fr4 .bpLoop).cfg.valid = true ∧ (taken fr4 .bpLoop).suppress = true ∧
      (taken fr4 .bpLoop).hold.length < (taken fr4 .bpLoop).cfg.rxHoldDepth) ∧
    ({ taken fr4 .bpLoop with hold := [0xAA] }.suppress = true ∧
      { taken fr4 .bpLoop with hold := [0xAA] }.cfg.rxHoldDepth ≤ { taken fr4 .bpLoop with hold := [0xAA] }.hold.length) := by
  decide

theorem witness_RelayLoopTop_RelayLoopSends :
    (taken fr2 .rmTop).cfg.valid = true ∧ (taken fr2 .rmTop).behaving .rmTop ∧
    ({ latched fr2 with dstate := .rmTop }.behaving .rmTop ∧ { latched fr2 with dstate := .rmTop }.fa = true) ∧
    (taken fr2 .rmSend).behaving .rmSend := ⟨by decide, ⟨rfl, rfl⟩, ⟨⟨rfl, rfl⟩, rfl⟩, rfl, rfl⟩

/-- The four rows. -/
theorem witness_PulseStepsDriveLineOne :
    (taken fr2 .rmOn).behaving .rmOn ∧ (taken fr2 .rmOff).behaving .rmOff ∧ (taken fr4 .xPulseOn).behaving .xPulseOn ∧
    (taken fr4 .xPulseOff).behaving .xPulseOff ∧ (taken fr2 .rmOn).cfg.valid = true :=
  ⟨⟨rfl, rfl⟩, ⟨rfl, rfl⟩, ⟨rfl, rfl⟩, ⟨rfl, rfl⟩, by decide⟩

theorem witness_EnterStepsSuppressArrivals :
    (taken fr4 .bpEnter).behaving .bpEnter ∧ (taken fr5 .gpsEnter).behaving .gpsEnter ∧
    (taken fr4 .bpEnter).cfg.valid = true := ⟨⟨rfl, rfl⟩, ⟨rfl, rfl⟩, by decide⟩

/-- Out at the page bound, out on a fresh frame, and one group. -/
theorem witness_BootPageLoopSendsOneGroup :
    ((taken fr4 .bpLoop).cfg.valid = true ∧ (taken fr4 .bpLoop).msg.wf = true ∧ (taken fr4 .bpLoop).behaving .bpLoop ∧
      6 * (taken fr4 .bpLoop).cnt < (taken fr4 .bpLoop).cfg.pageSize ∧ (taken fr4 .bpLoop).fa = false) ∧
    ({ taken fr4 .bpLoop with cnt := 1 }.behaving .bpLoop ∧
      6 * { taken fr4 .bpLoop with cnt := 1 }.cnt ≥ { taken fr4 .bpLoop with cnt := 1 }.cfg.pageSize) ∧
    ({ taken fr4 .bpLoop with fa := true }.behaving .bpLoop ∧ { taken fr4 .bpLoop with fa := true }.fa = true) :=
  ⟨⟨by decide, rfl, ⟨rfl, rfl⟩, by decide, rfl⟩, ⟨⟨rfl, rfl⟩, by decide⟩, ⟨rfl, rfl⟩, rfl⟩

/-- One fragment; out on the payload bound, on a fresh frame, and on an `id` of zero. -/
theorem witness_GpsLoopSendsOneFragment :
    ((taken fr5 .gpsLoop).cfg.valid = true ∧ (taken fr5 .gpsLoop).msg.wf = true ∧
      (taken fr5 .gpsLoop).behaving .gpsLoop ∧
      7 * (taken fr5 .gpsLoop).cnt + 7 ≤ (taken fr5 .gpsLoop).cfg.N - 2 ∧ (taken fr5 .gpsLoop).fa = false ∧
      (taken fr5 .gpsLoop).f.read (2 + 7 * (taken fr5 .gpsLoop).cnt) ≠ 0x00) ∧
    ({ taken fr5 .gpsLoop with cnt := 1 }.behaving .gpsLoop ∧
      { taken fr5 .gpsLoop with cnt := 1 }.cfg.N - 2 < 7 * { taken fr5 .gpsLoop with cnt := 1 }.cnt + 7) ∧
    ({ taken fr5 .gpsLoop with fa := true }.behaving .gpsLoop ∧ { taken fr5 .gpsLoop with fa := true }.fa = true) ∧
    ((taken fr1 .gpsLoop).behaving .gpsLoop ∧
      (taken fr1 .gpsLoop).f.read (2 + 7 * (taken fr1 .gpsLoop).cnt) = 0x00) :=
  ⟨⟨by decide, rfl, ⟨rfl, rfl⟩, by decide, rfl, by decide⟩, ⟨⟨rfl, rfl⟩, by decide⟩, ⟨⟨rfl, rfl⟩, rfl⟩, ⟨rfl, rfl⟩,
    by decide⟩

theorem witness_ReleaseFeedsTheHeldBytesInOrder :
    { taken fr5 .xRelease with hold := [0xAA] }.behaving .xRelease ∧
    { taken fr5 .xRelease with hold := [0xAA] }.cfg.valid = true := ⟨⟨rfl, rfl⟩, by decide⟩

theorem witness_IdleWithoutFrameWaits :
    (taken fr0 .idle).cfg.valid = true ∧ (taken fr0 .idle).behaving .idle ∧ (taken fr0 .idle).fa = false :=
  ⟨by decide, ⟨rfl, rfl⟩, rfl⟩

theorem witness_InvalidConfigurationIsRefused :
    { State.reset with cfg := { Config.reference with N := 11 } }.cfg.valid = false := by decide

/-! ### States that meet the invariant -/

theorem base_inv : base.Inv where
  valid := by decide
  w_wf := rfl
  f_wf := rfl
  msg_wf := rfl
  w_within := rfl
  f_within := rfl
  msg_within := rfl
  head_lt := by decide
  checksum := by decide
  type_eq := rfl
  frame := .inl ⟨rfl, rfl, rfl⟩
  cnt_le := by decide
  hold_le := by decide
  hold_supp := fun h => absurd rfl h
  supp_iff := rfl

/-- The invariant of a state whose window and latch hold a frame, whatever the Dispatcher's state. -/
theorem framed_inv (bs : List Byte) (a : Bool) (d : DState)
    (h : (array bs).wf = true ∧ (array bs).within 12 = true ∧ xorRange (array bs).read 12 = 0x00 ∧
      (array bs).read 0 = sentinel ∧ bs.getD 1 0x00 = (array bs).read 1) : { taken bs d with fa := a }.Inv where
  valid := (by decide : tiny.valid = true)
  w_wf := h.1
  f_wf := h.1
  msg_wf := rfl
  w_within := h.2.1
  f_within := h.2.1
  msg_within := rfl
  head_lt := (by decide : 0 < 12)
  checksum := h.2.2.1.symm
  type_eq := h.2.2.2.2
  frame := .inr ⟨h.2.2.2.1, h.2.2.1⟩
  cnt_le := Nat.zero_le _
  hold_le := Nat.zero_le _
  hold_supp := fun h => absurd rfl h
  supp_iff := rfl

theorem fr4_inv (a : Bool) (d : DState) : { taken fr4 d with fa := a }.Inv := framed_inv fr4 a d (by decide)

theorem fr5_inv (d : DState) : (taken fr5 d).Inv := framed_inv fr5 false d (by decide)

theorem fr1_inv (d : DState) : (taken fr1 d).Inv := framed_inv fr1 false d (by decide)

/-- A window of sentinels with the cursor at 0: `N` even. -/
theorem sentinels_inv : (latched (List.replicate 12 0x55)).Inv :=
  framed_inv (List.replicate 12 0x55) true .idle (by decide)

/-- A window of sentinels with `N = 13`, nothing published yet. -/
def oddSentinels : State :=
  { base with cfg := { tiny with N := 13 }, w := array (List.replicate 13 0x55), ck := 0x55 }

theorem oddSentinels_inv : oddSentinels.Inv where
  valid := by decide
  w_wf := by decide
  f_wf := rfl
  msg_wf := rfl
  w_within := by decide
  f_within := rfl
  msg_within := rfl
  head_lt := by decide
  checksum := by decide
  type_eq := rfl
  frame := .inl ⟨rfl, rfl, rfl⟩
  cnt_le := by decide
  hold_le := by decide
  hold_supp := fun h => absurd rfl h
  supp_iff := rfl

/-! ### Statements about a step that answers -/

theorem witness_EveryStepKeepsTheInvariant :
    (∃ t, base.Inv ∧ step base = .next t) ∧
    (∃ t, (taken fr4 .bpLoop).Inv ∧ step (taken fr4 .bpLoop) = .next t) :=
  ⟨⟨_, base_inv, rfl⟩, ⟨_, fr4_inv false .bpLoop, rfl⟩⟩

theorem witness_EveryStepEmitsAtMostOneEvent :
    (∃ t, step (taken fr1 .tgl) = .next t) ∧
    (∃ t, step { base with sched := [.arrive 0x55] } = .next t ∧
      { base with sched := [.arrive 0x55] }.dispatcherTurn = false) :=
  ⟨⟨_, rfl⟩, ⟨_, rfl, rfl⟩⟩

theorem witness_DispatcherFollowsTheTransitionGraph :
    ∃ t, step (latched fr5) = .next t ∧ (latched fr5).dispatcherTurn = true ∧ (latched fr5).dstate = .idle ∧
      (latched fr5).fa = true :=
  ⟨_, rfl, rfl, rfl, rfl⟩

theorem witness_EachAgentWritesOnlyItsOwnState :
    (∃ t, step { base with sched := [.arrive 0x55] } = .next t) ∧
    (∃ t, step (taken fr5 .gpsLoop) = .next t ∧ (taken fr5 .gpsLoop).dispatcherTurn = true ∧
      (taken fr5 .gpsLoop).dstate ≠ .xRelease) ∧
    (∃ t, step { taken fr5 .xRelease with hold := [0xAA] } = .next t ∧
      { taken fr5 .xRelease with hold := [0xAA] }.dispatcherTurn = true) :=
  ⟨⟨_, rfl⟩, ⟨_, rfl, rfl, by decide⟩, ⟨_, rfl, rfl⟩⟩

/-- A publishing arrival, and a TAKE. -/
theorem witness_OnlyPublishSetsAndOnlyTakeClears :
    after (step { base with w := array (fr1.take 11), head := 11, ck := 0x54, sched := [.arrive 0x54] }) State.fa
      = some true ∧
    after (step (latched fr1)) State.fa = some false ∧ (latched fr1).fa = true ∧
    (∀ rest, (latched fr1).sched ≠ .reset :: rest) := ⟨by decide, by decide, rfl, fun _ h => (nomatch h)⟩

theorem witness_LatchIsStableUnderSuppression :
    ∃ t, (taken fr4 .bpLoop).Inv ∧ (taken fr4 .bpLoop).suppress = true ∧ step (taken fr4 .bpLoop) = .next t ∧
      (∀ rest, (taken fr4 .bpLoop).sched ≠ .reset :: rest) ∧ ¬ (taken fr4 .bpLoop).behaving .xRelease :=
  ⟨_, fr4_inv false .bpLoop, rfl, rfl, fun _ h' => (nomatch h'), fun h' => (nomatch h'.2)⟩

/-- A masked arrival, an ENTER step, a release, and a relay loop. -/
theorem witness_SuppressionCoversExactlyTheTwoLoops :
    ({ taken fr4 .bpLoop with sched := [.arrive 0x01] }.suppress = true ∧
      after (step { taken fr4 .bpLoop with sched := [.arrive 0x01] }) State.hold = some [0x01]) ∧
    ((taken fr4 .bpEnter).suppress = false ∧ after (step (taken fr4 .bpEnter)) State.suppress = some true) ∧
    ((taken fr4 .xRelease).suppress = true ∧ after (step (taken fr4 .xRelease)) State.suppress = some false) ∧
    ((taken fr4 .rmOn).Inv ∧ (taken fr4 .rmOn).dstate.relaying = true) :=
  ⟨⟨rfl, by decide⟩, ⟨rfl, by decide⟩, ⟨rfl, by decide⟩, fr4_inv false .rmOn, rfl⟩

/-- The three loop tests, a fresh frame each time. -/
theorem witness_LoopTestsPollWithoutConsuming :
    (∃ t, { latched fr2 with dstate := .rmTop }.behaving .rmTop ∧ step { latched fr2 with dstate := .rmTop } = .next t) ∧
    (∃ t, { latched fr4 with dstate := .bpLoop }.behaving .bpLoop ∧ step { latched fr4 with dstate := .bpLoop } = .next t) ∧
    (∃ t, { latched fr5 with dstate := .gpsLoop }.behaving .gpsLoop ∧
      step { latched fr5 with dstate := .gpsLoop } = .next t) :=
  ⟨⟨_, ⟨rfl, rfl⟩, rfl⟩, ⟨_, ⟨rfl, rfl⟩, rfl⟩, ⟨_, ⟨rfl, rfl⟩, rfl⟩⟩

/-- The four ways the Message buffer changes. -/
theorem witness_MessageBufferChangesOnlyWhereItIsBuilt :
    after (step (latched fr3)) (fun t => t.msg.read 0) = some 0x10 ∧ (latched fr3).msg.read 0 = 0x00 ∧
    after (step (taken fr4 .bpLoop)) (fun t => t.msg.read 0) = some 0xB0 ∧ (taken fr4 .bpLoop).msg.read 0 = 0x00 ∧
    after (step (taken fr5 .gpsLoop)) (fun t => t.msg.read 0) = some 0xC0 ∧
    after (step { base with msg := [(0, 0x01)], sched := [.reset] }) State.msg = some [] := by decide

theorem witness_TransmitLineIsOnOnlyInsideAPulse :
    ∃ t, { taken fr2 .rmOff with trace := [.ind .indTx true] }.indicatorConsistent ∧
      step { taken fr2 .rmOff with trace := [.ind .indTx true] } = .next t ∧
      (∀ rest, { taken fr2 .rmOff with trace := [.ind .indTx true] }.sched ≠ .reset :: rest) :=
  ⟨_, fun h' => (by simp [taken, DState.pulsing] at h'), rfl, fun _ h' => (nomatch h')⟩

/-- A latch that differs only at index `N`. -/
theorem witness_NoDispatcherStepReadsPastTheFrame :
    ∃ t, (taken fr4 .bpLoop).dispatcherTurn = true ∧ (taken fr4 .bpLoop).dstate ≠ .xRelease ∧
      (∀ i, i < (taken fr4 .bpLoop).cfg.N → ((taken fr4 .bpLoop).f.write 12 0x01).read i = (taken fr4 .bpLoop).f.read i) ∧
      step (taken fr4 .bpLoop) = .next t :=
  ⟨_, rfl, by decide, (by decide : ∀ i, i < 12 → ((array fr4).write 12 0x01).read i = (array fr4).read i), rfl⟩

/-- A latch that differs only in payload bytes past those copied. -/
theorem witness_UnreadPayloadNeverReachesTheMessage :
    (∀ k, k < 9 → ((array fr2).write 11 0x01).read (2 + k) = (array fr2).read (2 + k)) ∧
    (∀ k, k < 10 → ((array fr3).write 12 0x01).read (2 + k) = (array fr3).read (2 + k)) := by decide

theorem witness_NFeedsReplaceTheWholeWindow :
    tiny.valid = true ∧ (array fr2).wf = true ∧ base.suppress = false ∧ fr1.length = tiny.N ∧ 11 < tiny.N := by decide

/-- `isFrame` is met by the frames above; with `base_inv` these are the hypotheses of EveryWholeFrameIsDetected and of
OnlyTheLatestFrameIsDispatched. -/
theorem witness_EveryWholeFrameIsDetected :
    base.Inv ∧ base.suppress = false ∧ base.dstate = .idle ∧ base.sched = [] ∧ isFrame base.cfg.N fr1 ∧
    isFrame base.cfg.N fr0 := ⟨base_inv, rfl, rfl, rfl, ⟨rfl, rfl, by decide⟩, ⟨rfl, rfl, by decide⟩⟩

theorem witness_NoDetectionBeforeTheNthByte :
    base.cfg.valid = true ∧ base.suppress = false ∧ base.w = [] ∧ base.head = 0 ∧ (fr1.take 11).length < base.cfg.N := by
  decide

/-- `N` even and `N` odd. -/
theorem witness_AllSentinelWindowDetectsWhenNIsEven :
    ((latched (List.replicate 12 0x55)).Inv ∧ (latched (List.replicate 12 0x55)).suppress = false ∧
      (∀ i, i < 12 → (latched (List.replicate 12 0x55)).w.read i = 0x55) ∧ 12 % 2 = 0) ∧
    (oddSentinels.Inv ∧ oddSentinels.suppress = false ∧ (∀ i, i < 13 → oddSentinels.w.read i = 0x55) ∧ 13 % 2 = 1) :=
  ⟨⟨sentinels_inv, rfl, by decide, rfl⟩, oddSentinels_inv, rfl, by decide, rfl⟩

theorem witness_BootPageDispatchSendsEveryGroupInOrder :
    (taken fr4 .bpEnter).Inv ∧ (taken fr4 .bpEnter).sched = [] ∧ (taken fr4 .bpEnter).dstate = .bpEnter ∧
    (taken fr4 .bpEnter).fa = false := ⟨fr4_inv false .bpEnter, rfl, rfl, rfl⟩

/-- `k = NF` with V42's frame, and an `id` of zero at fragment 0. -/
theorem witness_GpsDispatchStopsAtTheEndSentinel :
    ((taken fr5 .gpsEnter).Inv ∧ (taken fr5 .gpsEnter).sched = [] ∧ (taken fr5 .gpsEnter).dstate = .gpsEnter ∧
      (taken fr5 .gpsEnter).fa = false ∧ 1 = (taken fr5 .gpsEnter).cfg.NF ∧
      (∀ j, j < 1 → (taken fr5 .gpsEnter).f.read (2 + 7 * j) ≠ 0x00)) ∧
    ((taken fr1 .gpsEnter).Inv ∧ (taken fr1 .gpsEnter).fa = false ∧ 0 ≤ (taken fr1 .gpsEnter).cfg.NF ∧
      (taken fr1 .gpsEnter).f.read (2 + 7 * 0) = 0x00) :=
  ⟨⟨fr5_inv .gpsEnter, rfl, rfl, rfl, rfl, by decide⟩, fr1_inv .gpsEnter, rfl, by decide, by decide⟩

theorem witness_FrameInTheGapCancelsTheDispatch :
    { taken fr4 .bpEnter with fa := true }.Inv ∧ { taken fr4 .bpEnter with fa := true }.sched = [] ∧
    { taken fr4 .gpsEnter with fa := true }.Inv ∧ { taken fr4 .gpsEnter with fa := true }.fa = true :=
  ⟨fr4_inv true .bpEnter, rfl, fr4_inv true .gpsEnter, rfl⟩

theorem witness_RelayLoopRepeatsWithoutAFreshFrame :
    (taken fr2 .rmTop).cfg.valid = true ∧ (taken fr2 .rmTop).sched = [] ∧ (taken fr2 .rmTop).dstate = .rmTop ∧
    (taken fr2 .rmTop).fa = false := by decide

/-- From the farthest state of the loop, RM_ON. -/
theorem witness_FreshFrameEndsTheRelayLoopPromptly :
    { latched fr2 with dstate := .rmOn }.cfg.valid = true ∧ { latched fr2 with dstate := .rmOn }.sched = [] ∧
    { latched fr2 with dstate := .rmOn }.dstate.relaying = true ∧ { latched fr2 with dstate := .rmOn }.fa = true := by
  decide

theorem witness_TwoToggleDispatchesRestoreTheIndicator :
    (latched fr1).cfg.valid = true ∧ (latched fr1).sched = [] ∧ (latched fr1).dstate = .idle ∧ (latched fr1).fa = true ∧
    (latched fr1).ftype = 0x01 := by decide

theorem witness_QuiescentStateWaitsForTheEnvironment :
    base.Inv ∧ base.quiescent ∧ base.sched = [] := ⟨base_inv, ⟨rfl, rfl⟩, rfl⟩

end Sys2Proof.Tests
end

/-!
PROOFS. The facts about single steps that the statements about the state rest on (10_state.md section 6 and R45).
-/

namespace Sys2Proof.Machine

/-! ## Steps by whose turn it is -/

theorem step_of_arrive {s t : State} (h : step s = .next t) {b : Byte} {rest : List Turn}
    (hs : s.sched = .arrive b :: rest) : t = s.takeTurn.arrive b := by
  obtain ⟨_, ⟨b', _, hs', ht⟩ | ⟨_, hs', _⟩ | ⟨hd, _⟩ | ⟨hd, _⟩⟩ := step_cases h
  · rw [hs] at hs'
    cases hs'
    exact ht
  · simp [hs] at hs'
  all_goals simp [State.dispatcherTurn, hs] at hd

theorem step_of_dispatcherTurn {s t : State} (h : step s = .next t) (hd : s.dispatcherTurn = true) :
    (s.decodeEnabled = true ∧ t = effect (instrOfType s.ftype) s.takeTurn) ∨
    (s.decodeEnabled = false ∧ t = s.takeTurn.behave) := by
  obtain ⟨_, ⟨_, _, hs, _⟩ | ⟨_, hs, _⟩ | ⟨_, h'⟩ | ⟨_, h'⟩⟩ := step_cases h
  · simp [State.dispatcherTurn, hs] at hd
  · simp [State.dispatcherTurn, hs] at hd
  · exact .inl h'
  · exact .inr h'

theorem State.decodeEnabled_iff {s : State} : s.decodeEnabled = true ↔ s.dstate = .idle ∧ s.fa = true := by
  simp [State.decodeEnabled]

/-! ## The behaviour steps that test something -/

theorem State.rmTop_cases (s : State) :
    (s.fa = true ∧ s.rmTop = s.goto .idle) ∨ (s.fa = false ∧ s.rmTop = s.goto .rmOn) := by
  cases h : s.fa <;> simp [State.rmTop, State.poll, h]

/-- BP_LOOP leaves, or it sends the group `CNT` (R123). -/
theorem State.bpLoop_cases (s : State) :
    ((s.cfg.pageSize ≤ 6 * s.cnt ∨ s.fa = true) ∧ s.bpLoop = s.goto .xRelease) ∨
    (6 * s.cnt < s.cfg.pageSize ∧ s.fa = false ∧
      s.bpLoop = (s.setMsg (s.bootPageMessage s.cnt)).send.setCnt (s.cnt + 1)) := by
  unfold State.bpLoop State.poll
  split_ifs with hpage hfa
  · exact .inl ⟨.inl hpage, rfl⟩
  · exact .inl ⟨.inr hfa, rfl⟩
  · exact .inr ⟨by omega, by simpa using hfa, rfl⟩

/-- GPS_LOOP leaves, or it sends the fragment `CNT` (R126). -/
theorem State.gpsLoop_cases (s : State) :
    ((s.cfg.N - 2 < 7 * s.cnt + 7 ∨ s.fa = true ∨ s.fragmentByte s.cnt 0 = 0x00) ∧ s.gpsLoop = s.goto .xRelease) ∨
    (7 * s.cnt + 7 ≤ s.cfg.N - 2 ∧ s.fa = false ∧ s.fragmentByte s.cnt 0 ≠ 0x00 ∧
      s.gpsLoop = (s.setMsg (s.gpsMessage s.cnt)).send.setCnt (s.cnt + 1)) := by
  unfold State.gpsLoop State.poll
  split_ifs with hlen hfa hid
  · exact .inl ⟨.inl hlen, rfl⟩
  · exact .inl ⟨.inr (.inl hfa), rfl⟩
  · exact .inl ⟨.inr (.inr hid), rfl⟩
  · exact .inr ⟨by omega, by simpa using hfa, hid, rfl⟩

/-! ## X_RELEASE as FEEDs of the held bytes -/

/-- FEED neither reads nor writes `SUPPRESS`. -/
theorem State.feed_clearSuppress (s : State) (b : Byte) : s.clearSuppress.feed b = (s.feed b).clearSuppress := by
  have hsync : (s.clearSuppress.shiftIn b).synchronized = (s.shiftIn b).synchronized := rfl
  simp only [State.feed, hsync]
  split_ifs <;> rfl

theorem State.feedAll_clearSuppress (s : State) (bs : List Byte) :
    s.clearSuppress.feedAll bs = (s.feedAll bs).clearSuppress := by
  induction bs generalizing s with
  | nil => rfl
  | cons b bs ih => rw [State.feedAll_cons, State.feed_clearSuppress, ih, State.feedAll_cons]

/-- X_RELEASE (R127, R148): the held bytes fed in order, then the mask off, `HOLD` empty and the pulse next. -/
theorem State.xRelease_eq (s : State) :
    s.xRelease = { s.feedAll s.hold with suppress := false, hold := [], dstate := .xPulseOn } := by
  unfold State.xRelease State.releaseHold
  rw [State.feedAll_clearSuppress]
  rfl

theorem State.feedAll_fa_mono (bs : List Byte) {s : State} (h : s.fa = true) : (s.feedAll bs).fa = true :=
  State.feedAll_induct (P := fun u => u.fa = true) (fun u b hu => u.feed_fa_mono b hu) bs h

/-! ## The Message records are canonical arrays of `S` bytes (R48, R78 to R88) -/

section Messages
variable {s : State}

theorem Memory.wf_withChecksum {m : Memory} (c : Config) (h : m.wf = true) : (m.withChecksum c).wf = true :=
  Memory.wf_write h _ _

theorem Memory.within_withChecksum {m : Memory} {c : Config} (hv : c.valid = true) (h : m.within c.lay.S = true) :
    (m.withChecksum c).within c.lay.S = true := by
  have := Config.valid_iff.mp hv
  exact Memory.within_write h (by unfold Config.ckOff; omega) _

theorem State.wf_relayMessage (h : s.msg.wf = true) : s.relayMessage.wf = true :=
  Memory.wf_withChecksum _ (Memory.wf_copyIn h _ _ _)

theorem State.wf_rawMessage (h : s.msg.wf = true) : s.rawMessage.wf = true := Memory.wf_copyIn h _ _ _

theorem State.wf_clearedMessage (h : s.msg.wf = true) : s.clearedMessage.wf = true := Memory.wf_copyIn h _ _ _

theorem State.wf_bootPageMessage (h : s.msg.wf = true) (g : Nat) : (s.bootPageMessage g).wf = true :=
  Memory.wf_withChecksum _ (Memory.wf_copyIn
    (Memory.wf_write (Memory.wf_write (Memory.wf_write (State.wf_clearedMessage h) _ _) _ _) _ _) _ _ _)

theorem State.wf_gpsMessage (h : s.msg.wf = true) (k : Nat) : (s.gpsMessage k).wf = true :=
  Memory.wf_withChecksum _ (Memory.wf_copyIn (Memory.wf_write (State.wf_clearedMessage h) _ _) _ _ _)

theorem State.within_rawMessage (h : s.msg.within s.cfg.lay.S = true) : s.rawMessage.within s.cfg.lay.S = true :=
  Memory.within_copyIn h _ _ _ (by omega)

theorem State.within_clearedMessage (h : s.msg.within s.cfg.lay.S = true) :
    s.clearedMessage.within s.cfg.lay.S = true :=
  Memory.within_copyIn h _ _ _ (by omega)

variable (hv : s.cfg.valid = true) (h : s.msg.within s.cfg.lay.S = true)
include hv h

theorem State.within_relayMessage : s.relayMessage.within s.cfg.lay.S = true :=
  Memory.within_withChecksum hv (Memory.within_copyIn h _ _ _ (by omega))

theorem State.within_bootPageMessage (g : Nat) : (s.bootPageMessage g).within s.cfg.lay.S = true := by
  obtain ⟨_, ⟨_, htype, haddr, hofs, hdata, _⟩, _⟩ := Config.valid_iff.mp hv
  refine Memory.within_withChecksum hv (Memory.within_copyIn
    (Memory.within_write (Memory.within_write (Memory.within_write (State.within_clearedMessage h) ?_ _) ?_ _) ?_ _)
    _ _ _ ?_)
  all_goals omega

theorem State.within_gpsMessage (k : Nat) : (s.gpsMessage k).within s.cfg.lay.S = true := by
  obtain ⟨_, ⟨_, htype, _, _, _, hgps⟩, _⟩ := Config.valid_iff.mp hv
  refine Memory.within_withChecksum hv
    (Memory.within_copyIn (Memory.within_write (State.within_clearedMessage h) ?_ _) _ _ _ ?_)
  all_goals omega

end Messages

/-! ## The invariant: one rule per operation of the state

Where an operation leaves a field alone, its clause of the invariant carries over by computation, so a rule only says why
the clauses about the written fields hold. -/

section InvariantRules
variable {s : State}

/-- Outside IDLE the latch holds a frame (R41). -/
theorem State.Inv.frameValid_of_busy (h : s.Inv) (hd : s.dstate ≠ .idle) : s.frameValid :=
  h.frame.resolve_left fun ⟨_, _, hidle⟩ => hd hidle

/-- While a frame is available the latch holds it (R41). -/
theorem State.Inv.frameValid_of_fresh (h : s.Inv) (hfa : s.fa = true) : s.frameValid :=
  h.frame.resolve_left fun ⟨_, hno, _⟩ => Bool.noConfusion (hfa.symm.trans hno)

theorem State.Inv.takeTurn (h : s.Inv) : s.takeTurn.Inv := { h with }

theorem State.Inv.emit (h : s.Inv) (e : Event) : (s.emit e).Inv := { h with }

theorem State.Inv.send (h : s.Inv) : s.send.Inv := h.emit _

theorem State.Inv.flipToggle (h : s.Inv) : s.flipToggle.Inv := { h with }

theorem State.Inv.take (h : s.Inv) : s.take.Inv :=
  { h with frame := h.frame.imp_left fun ⟨hf, _, hidle⟩ => ⟨hf, rfl, hidle⟩ }

theorem State.Inv.setMsg (h : s.Inv) {m : Memory} (hwf : m.wf = true) (hin : m.within s.cfg.lay.S = true) :
    (s.setMsg m).Inv :=
  { h with msg_wf := hwf, msg_within := hin }

/-- A built Message sent and counted (R123, R126). -/
theorem State.Inv.sendRecord (h : s.Inv) {m : Memory} {n : Nat} (hwf : m.wf = true) (hin : m.within s.cfg.lay.S = true)
    (hn : n ≤ max s.cfg.NG s.cfg.NF) : ((s.setMsg m).send.setCnt n).Inv :=
  { h with msg_wf := hwf, msg_within := hin, cnt_le := hn }

/-- A transition that neither enters nor leaves the suppressed states (R43). -/
theorem State.Inv.goto (h : s.Inv) (hf : s.frameValid) {c d : DState} (hc : s.dstate = c)
    (hd : d.suppressed = c.suppressed) : (s.goto d).Inv :=
  { h with frame := .inr hf, supp_iff := h.supp_iff.trans (hc ▸ hd.symm) }

/-- An ENTER step: the mask goes on together with the transition into a suppressed state (R122, R125). -/
theorem State.Inv.enterLoop (h : s.Inv) (hf : s.frameValid) {d : DState} (hd : d.suppressed = true) :
    ((s.setSuppress.setCnt 0).goto d).Inv :=
  { h with frame := .inr hf, cnt_le := Nat.zero_le _, hold_supp := fun _ => rfl, supp_iff := hd.symm }

/-! ### FEED and arrivals -/

/-- R92: the checksum follows the one window byte that changes. -/
theorem State.Inv.shiftIn (h : s.Inv) (b : Byte) : (s.shiftIn b).Inv := by
  have hpos : 0 < s.cfg.N := Nat.zero_lt_of_lt h.head_lt
  have hlt : s.head % s.cfg.N < s.cfg.N := Nat.mod_lt _ hpos
  have hck := xorRange_update (g := s.w.read) (g' := (s.w.write (s.head % s.cfg.N) b).read) hlt
    fun _ _ hne => Memory.read_write_other h.w_wf hne b
  rw [Memory.read_write_same h.w_wf, ← h.checksum] at hck
  exact
    { h with
      w_wf := Memory.wf_write h.w_wf _ _
      w_within := Memory.within_write h.w_within hlt b
      head_lt := Nat.mod_lt _ hpos
      checksum := hck.symm }

/-- R41, R94: the latched window starts with the sentinel, and its XOR is the checksum, however it is rotated. -/
theorem State.Inv.frameValid_publish (h : s.Inv) (hs : s.synchronized = true) : s.publish.frameValid := by
  obtain ⟨hsync, hck⟩ := State.synchronized_iff.mp hs
  have hpos : 0 < s.cfg.N := Nat.zero_lt_of_lt h.head_lt
  have hread (i : Nat) (hi : i < s.cfg.N) : s.publish.f.read i = s.w.read ((s.head + i) % s.cfg.N) := by
    simp [Memory.read_copyIn h.f_wf, hi]
  constructor
  · rw [hread 0 hpos, Nat.add_zero, Nat.mod_eq_of_lt h.head_lt, hsync]
  · calc xorRange s.publish.f.read s.cfg.N
        = xorRange (fun i => s.w.read ((s.head + i) % s.cfg.N)) s.cfg.N := xorRange_congr hread
      _ = xorRange s.w.read s.cfg.N := xorRange_rotate _ hpos _
      _ = 0x00 := h.checksum.symm.trans hck

theorem State.Inv.publish (h : s.Inv) (hs : s.synchronized = true) : s.publish.Inv :=
  { h with
    f_wf := Memory.wf_copyIn h.f_wf _ _ _
    f_within := Memory.within_copyIn h.f_within _ _ _ (by omega)
    type_eq := rfl
    frame := .inr (h.frameValid_publish hs) }

theorem State.Inv.feed (h : s.Inv) (b : Byte) : (s.feed b).Inv := by
  obtain ⟨hs, he⟩ | ⟨_, he⟩ := s.feed_cases b
  · exact he ▸ (h.shiftIn b).publish hs
  · exact he ▸ h.shiftIn b

theorem State.Inv.arrive (h : s.Inv) (b : Byte) : (s.arrive b).Inv := by
  obtain ⟨_, he⟩ | ⟨hs, hroom, he⟩ | ⟨_, _, he⟩ := s.arrive_cases b
  · exact he ▸ h.feed b
  · rw [he]
    exact { h with hold_le := by simpa using hroom, hold_supp := fun _ => hs }
  · exact he.symm ▸ h

/-- X_RELEASE: the FEEDs keep the invariant while the mask is still on; then mask, `HOLD` and `DSTATE` change together. -/
theorem State.Inv.xRelease (h : s.Inv) (hd : s.dstate = .xRelease) : s.xRelease.Inv := by
  have hu : (s.feedAll s.hold).Inv := State.feedAll_induct (fun _ b hu => hu.feed b) s.hold h
  obtain ⟨_, _, _, _, hdu, _⟩ := s.feedAll_frame s.hold
  have hf : (s.feedAll s.hold).frameValid := hu.frameValid_of_busy (by simp [hdu, hd])
  rw [State.xRelease_eq]
  exact
    { hu with
      frame := .inr hf, hold_le := Nat.zero_le _, hold_supp := fun hne => absurd rfl hne, supp_iff := rfl }

/-! ### RESET -/

theorem xorRange_read_nil (n : Nat) : xorRange (Memory.read []) n = 0x00 := by
  induction n with
  | zero => rfl
  | succ n ih =>
    rw [xorRange, ih, Memory.read]
    rfl

theorem State.Inv.toReset (h : s.Inv) : s.toReset.Inv where
  valid := h.valid
  w_wf := rfl
  f_wf := rfl
  msg_wf := rfl
  w_within := rfl
  f_within := rfl
  msg_within := rfl
  head_lt := Nat.zero_lt_of_lt h.head_lt
  checksum := (xorRange_read_nil _).symm
  type_eq := rfl
  frame := .inl ⟨rfl, rfl, rfl⟩
  cnt_le := Nat.zero_le _
  hold_le := Nat.zero_le _
  hold_supp := fun hne => absurd rfl hne
  supp_iff := rfl

/-! ### The Dispatcher's steps -/

theorem State.Inv.bpLoop (h : s.Inv) (hd : s.dstate = .bpLoop) : s.bpLoop.Inv := by
  obtain ⟨_, he⟩ | ⟨hpage, _, he⟩ := s.bpLoop_cases
  · exact he ▸ h.goto (h.frameValid_of_busy (by simp [hd])) hd rfl
  · have hcnt : s.cnt + 1 ≤ max s.cfg.NG s.cfg.NF := le_max_of_le_left (by unfold Config.NG; omega)
    exact he ▸ h.sendRecord (State.wf_bootPageMessage h.msg_wf s.cnt)
      (State.within_bootPageMessage h.valid h.msg_within s.cnt) hcnt

theorem State.Inv.gpsLoop (h : s.Inv) (hd : s.dstate = .gpsLoop) : s.gpsLoop.Inv := by
  obtain ⟨_, he⟩ | ⟨hlen, _, _, he⟩ := s.gpsLoop_cases
  · exact he ▸ h.goto (h.frameValid_of_busy (by simp [hd])) hd rfl
  · have hcnt : s.cnt + 1 ≤ max s.cfg.NG s.cfg.NF := le_max_of_le_right (by unfold Config.NF Config.PL; omega)
    exact he ▸ h.sendRecord (State.wf_gpsMessage h.msg_wf s.cnt)
      (State.within_gpsMessage h.valid h.msg_within s.cnt) hcnt

theorem State.Inv.behave (h : s.Inv) : s.behave.Inv := by
  by_cases hidle : s.dstate = .idle
  · rwa [State.behave_idle hidle]
  have hf : s.frameValid := h.frameValid_of_busy hidle
  cases hd : s.dstate with
  | idle => exact absurd hd hidle
  | tgl => exact State.behave_tgl hd ▸ (h.flipToggle.emit _).goto hf hd rfl
  | rmTop =>
    rw [State.behave_rmTop hd]
    obtain ⟨_, he⟩ | ⟨_, he⟩ := s.rmTop_cases
    all_goals exact he ▸ h.goto hf hd rfl
  | rmOn => exact State.behave_rmOn hd ▸ (h.emit _).goto hf hd rfl
  | rmSend => exact State.behave_rmSend hd ▸ h.send.goto hf hd rfl
  | rmOff => exact State.behave_rmOff hd ▸ (h.emit _).goto hf hd rfl
  | bpEnter => exact State.behave_bpEnter hd ▸ h.enterLoop hf rfl
  | bpLoop => exact State.behave_bpLoop hd ▸ h.bpLoop hd
  | gpsEnter => exact State.behave_gpsEnter hd ▸ h.enterLoop hf rfl
  | gpsLoop => exact State.behave_gpsLoop hd ▸ h.gpsLoop hd
  | xRelease => exact State.behave_xRelease hd ▸ h.xRelease hd
  | xPulseOn => exact State.behave_xPulseOn hd ▸ (h.emit _).goto hf hd rfl
  | xPulseOff => exact State.behave_xPulseOff hd ▸ (h.emit _).goto hf hd rfl

theorem State.Inv.decode (h : s.Inv) (he : s.decodeEnabled = true) (t : Byte) : (effect (instrOfType t) s).Inv := by
  obtain ⟨hd, hfa⟩ := State.decodeEnabled_iff.mp he
  have hf : s.frameValid := h.frameValid_of_fresh hfa
  have hgoto {d : DState} (hns : d.suppressed = false) : (s.take.goto d).Inv :=
    h.take.goto hf hd hns
  obtain ⟨_, e⟩ | ⟨_, e⟩ | ⟨_, e⟩ | ⟨_, e⟩ | ⟨_, e⟩ | ⟨_, e⟩ := decode_arms t s
  · exact e ▸ hgoto rfl
  · exact e ▸ (hgoto (d := .rmTop) rfl).setMsg (State.wf_relayMessage h.msg_wf)
      (State.within_relayMessage h.valid h.msg_within)
  · exact e ▸ (hgoto (d := .rmTop) rfl).setMsg (State.wf_rawMessage h.msg_wf) (State.within_rawMessage h.msg_within)
  · exact e ▸ hgoto rfl
  · exact e ▸ hgoto rfl
  · exact e ▸ hgoto rfl

theorem State.Inv.step {t : State} (h : s.Inv) (hst : step s = .next t) : t.Inv := by
  obtain ⟨_, ⟨b, _, _, rfl⟩ | ⟨_, _, rfl⟩ | ⟨_, he, rfl⟩ | ⟨_, _, rfl⟩⟩ := step_cases hst
  · exact h.takeTurn.arrive b
  · exact h.takeTurn.toReset
  · exact h.takeTurn.decode he s.ftype
  · exact h.takeTurn.behave

end InvariantRules

/-- Settles O26: one rule per operation of the state, put together along the four kinds of step. -/
theorem everyStepKeepsTheInvariant : Obligations.EveryStepKeepsTheInvariant := by
  unfold Obligations.EveryStepKeepsTheInvariant
  exact fun _ _ h hst => h.step hst

/-! ## Ownership (R45) -/

/-- What a step of the Dispatcher other than X_RELEASE may write: the second clause of R45. -/
def State.DispatcherWrites (s t : State) : Prop :=
  t = { s with sched := t.sched, fa := t.fa, toggle := t.toggle, msg := t.msg, cnt := t.cnt, dstate := t.dstate,
               suppress := t.suppress, trace := t.trace } ∧
  (t.fa = true → s.fa = true)

/-- The DECODE step clears `FA` and writes its own state only. -/
theorem State.decode_dispatcherWrites (s : State) (ty : Byte) : s.DispatcherWrites (effect (instrOfType ty) s) := by
  obtain ⟨_, he⟩ | ⟨_, he⟩ | ⟨_, he⟩ | ⟨_, he⟩ | ⟨_, he⟩ | ⟨_, he⟩ := decode_arms ty s
  all_goals
    rw [he]
    exact ⟨rfl, nofun⟩

/-- Building a Message, sending it and counting writes only MSG, CNT and the trace (R123, R126). -/
theorem State.sendRecord_dispatcherWrites (s : State) (m : Memory) (n : Nat) :
    s.DispatcherWrites ((s.setMsg m).send.setCnt n) := ⟨rfl, id⟩

theorem State.goto_dispatcherWrites (s : State) (d : DState) : s.DispatcherWrites (s.goto d) := ⟨rfl, id⟩

/-- No behaviour step but X_RELEASE writes `FA` or a state that is not the Dispatcher's. -/
theorem State.behave_dispatcherWrites {s : State} (hx : s.dstate ≠ .xRelease) : s.DispatcherWrites s.behave := by
  cases hd : s.dstate with
  | xRelease => exact absurd hd hx
  | rmTop =>
    rw [State.behave_rmTop hd]
    obtain ⟨_, he⟩ | ⟨_, he⟩ := s.rmTop_cases
    all_goals exact he ▸ s.goto_dispatcherWrites _
  | bpLoop =>
    rw [State.behave_bpLoop hd]
    obtain ⟨_, he⟩ | ⟨_, _, he⟩ := s.bpLoop_cases
    · exact he ▸ s.goto_dispatcherWrites _
    · exact he ▸ s.sendRecord_dispatcherWrites _ _
  | gpsLoop =>
    rw [State.behave_gpsLoop hd]
    obtain ⟨_, he⟩ | ⟨_, _, _, he⟩ := s.gpsLoop_cases
    · exact he ▸ s.goto_dispatcherWrites _
    · exact he ▸ s.sendRecord_dispatcherWrites _ _
  | idle | tgl | rmOn | rmSend | rmOff | bpEnter | gpsEnter | xPulseOn | xPulseOff =>
    rw [State.behave, hd]
    exact ⟨rfl, id⟩

theorem step_dispatcherWrites {s t : State} (h : step s = .next t) (hd : s.dispatcherTurn = true)
    (hx : s.dstate ≠ .xRelease) : s.DispatcherWrites t := by
  obtain ⟨_, rfl⟩ | ⟨_, rfl⟩ := step_of_dispatcherTurn h hd
  · exact s.takeTurn.decode_dispatcherWrites s.ftype
  · exact State.behave_dispatcherWrites (s := s.takeTurn) hx

theorem step_of_xRelease {s t : State} (h : step s = .next t) (hd : s.dispatcherTurn = true)
    (hx : s.dstate = .xRelease) : t = s.takeTurn.xRelease := by
  obtain ⟨he, _⟩ | ⟨_, rfl⟩ := step_of_dispatcherTurn h hd
  · obtain ⟨hidle, _⟩ := State.decodeEnabled_iff.mp he
    simp [hx] at hidle
  · exact State.behave_xRelease hx

/-- FEED writes only the window, its cursor and checksum, the latch, `TYPE` and `FA` (R96). -/
theorem State.feed_frame (s : State) (b : Byte) :
    s.feed b = { s with w := (s.feed b).w, head := (s.feed b).head, ck := (s.feed b).ck, f := (s.feed b).f,
                        ftype := (s.feed b).ftype, fa := (s.feed b).fa } := by
  obtain ⟨_, he⟩ | ⟨_, he⟩ := s.feed_cases b
  all_goals
    rw [he]
    rfl

/-- An arrival step writes only what FEED writes, and `HOLD` by appending (R145, R147). -/
theorem State.arrive_frame (s : State) (b : Byte) :
    s.arrive b = { s with w := (s.arrive b).w, head := (s.arrive b).head, ck := (s.arrive b).ck, f := (s.arrive b).f,
                          ftype := (s.arrive b).ftype, fa := (s.arrive b).fa, hold := (s.arrive b).hold } ∧
    (s.fa = true → (s.arrive b).fa = true) ∧ s.hold <+: (s.arrive b).hold := by
  obtain ⟨_, he⟩ | ⟨_, _, he⟩ | ⟨_, _, he⟩ := s.arrive_cases b
  all_goals rw [he]
  · refine ⟨?_, s.feed_fa_mono b, by simp⟩
    simpa using s.feed_frame b
  · exact ⟨rfl, id, [b], rfl⟩
  · exact ⟨rfl, id, [], List.append_nil _⟩

/-- X_RELEASE writes what its FEEDs write, opens the mask, empties `HOLD` and goes on to the pulse (R127, R148). -/
theorem State.xRelease_frame (s : State) :
    s.xRelease = { s with w := s.xRelease.w, head := s.xRelease.head, ck := s.xRelease.ck, f := s.xRelease.f,
                          ftype := s.xRelease.ftype, fa := s.xRelease.fa, dstate := .xPulseOn, suppress := false,
                          hold := [], sched := s.xRelease.sched } ∧
    (s.fa = true → s.xRelease.fa = true) := by
  rw [State.xRelease_eq]
  refine ⟨?_, s.feedAll_fa_mono s.hold⟩
  obtain ⟨hcfg, htoggle, hmsg, hcnt, _, _, _, _, htrace⟩ := s.feedAll_frame s.hold
  exact State.ext hcfg rfl rfl rfl rfl rfl rfl htoggle hmsg hcnt rfl rfl rfl rfl htrace

/-- Settles O31: an arrival feeds, holds or loses its byte; the Dispatcher's steps arm by arm; X_RELEASE feeds the held
bytes. -/
theorem eachAgentWritesOnlyItsOwnState : Obligations.EachAgentWritesOnlyItsOwnState := by
  unfold Obligations.EachAgentWritesOnlyItsOwnState
  intro s t h
  refine ⟨fun b rest hs => ?_, fun hd hx => step_dispatcherWrites h hd hx, fun hd hx => ?_⟩
  · obtain rfl := step_of_arrive h hs
    obtain rfl : rest = s.sched.tail := by simp [hs]
    exact s.takeTurn.arrive_frame b
  · obtain rfl := step_of_xRelease h hd hx
    exact s.takeTurn.xRelease_frame

end Sys2Proof.Machine

/-!
PROOFS. Decoder, encoder and opcode table against each other (30_encoding.md section 3, R72 to R77). A frame instruction
is fixed by its type byte: on well-formed instructions `typeOf` and `instrOfType` are inverse, and an opcode-table row
is a range of type bytes.
-/

namespace Sys2Proof

/-! ## What the decoder accepts -/

theorem decode_sentinel (t : Byte) (rest : List Byte) :
    decode ⟨.frameHdr16, sentinel :: t :: rest⟩ = .ok (instrOfType t) := rfl

theorem decode_of_ne_sentinel {sync : Byte} (h : sync ≠ sentinel) (t : Byte) (rest : List Byte) :
    decode ⟨.frameHdr16, sync :: t :: rest⟩ = .error .notSentinel := if_neg h

theorem decode_reset_of_ne_one {v : Byte} (h : v ≠ 1) (rest : List Byte) :
    decode ⟨.resetInput, v :: rest⟩ = .error .resetNotAsserted := if_neg h

/-- The codes that decode, with the instruction each of them stands for. -/
theorem decode_cases {c : Code} {i : Instr} (h : decode c = .ok i) :
    (∃ t rest, c = ⟨.frameHdr16, sentinel :: t :: rest⟩ ∧ i = instrOfType t) ∨
    (∃ b rest, c = ⟨.rxByte, b :: rest⟩ ∧ i = .feed b) ∨
    (∃ rest, c = ⟨.resetInput, 1 :: rest⟩ ∧ i = .reset) := by
  match c, h with
  | ⟨.frameHdr16, sync :: t :: rest⟩, h =>
    by_cases hs : sync = sentinel
    · subst hs
      rw [decode_sentinel] at h
      cases h
      exact .inl ⟨t, rest, rfl, rfl⟩
    · rw [decode_of_ne_sentinel hs] at h
      cases h
  | ⟨.rxByte, b :: rest⟩, h =>
    cases h
    exact .inr (.inl ⟨b, rest, rfl, rfl⟩)
  | ⟨.resetInput, v :: rest⟩, h =>
    by_cases hv : v = 1
    · subst hv
      cases h
      exact .inr (.inr ⟨rest, rfl, rfl⟩)
    · rw [decode_reset_of_ne_one hv] at h
      cases h

/-! ## The type byte of a frame instruction -/

theorem encode_of_typeOf {i : Instr} {t : Byte} (h : typeOf i = some t) : encode i = ⟨.frameHdr16, [sentinel, t]⟩ := by
  cases i <;> cases h <;> rfl

@[simp] theorem typeOf_instrOfType (t : Byte) : typeOf (instrOfType t) = some t := by
  fun_cases instrOfType t
  case case1 | case2 | case3 | case4 | case5 | case6 =>
    subst t
    rfl
  all_goals rfl

@[simp] theorem wellFormed_instrOfType (t : Byte) : (instrOfType t).wellFormed = true := by
  fun_cases instrOfType t
  case case1 | case2 | case3 | case4 | case5 | case6 => rfl
  all_goals exact decide_eq_true (by bv_omega)

/-- A well-formed frame instruction is the one its type byte selects (R75, R76). The lower bound of a reserved row fails
every earlier test of `instrOfType`, and the upper bound passes the row's own. -/
theorem instrOfType_of_typeOf {i : Instr} {t : Byte} (hw : i.wellFormed = true) (ht : typeOf i = some t) :
    instrOfType t = i := by
  cases i with
  | noop | toggle | relayMsg | relayRaw | relayBootpage | relayGps =>
    cases ht
    rfl
  | feed | reset => cases ht
  | reserved0607 | reserved080F | reserved101F | reserved203F | reserved407F | reserved80FF =>
    cases ht
    simp only [Instr.wellFormed, decide_eq_true_eq] at hw
    grind [instrOfType]

/-! ## The two round trips -/

/-- Settles O1: a frame instruction by its type byte, the two inputs by computation. -/
theorem decodingInvertsEncoding : Obligations.DecodingInvertsEncoding := by
  unfold Obligations.DecodingInvertsEncoding
  intro i hw
  cases ht : typeOf i with
  | some t => rw [encode_of_typeOf ht, decode_sentinel, instrOfType_of_typeOf hw ht]
  | none =>
    cases i with
    | feed | reset => rfl
    | _ => cases ht

/-- Settles O2: the length leaves no byte after those the decoder read. -/
theorem encodingInvertsDecoding : Obligations.EncodingInvertsDecoding := by
  unfold Obligations.EncodingInvertsDecoding
  intro c i h hlen
  obtain ⟨t, rest, rfl, rfl⟩ | ⟨b, rest, rfl, rfl⟩ | ⟨rest, rfl, rfl⟩ := decode_cases h
  · rw [encode_of_typeOf (typeOf_instrOfType t)] at hlen ⊢
    obtain rfl : rest = [] := by simpa using hlen
    exact ⟨wellFormed_instrOfType t, rfl⟩
  all_goals
    obtain rfl : rest = [] := by simpa [encode] using hlen
    exact ⟨rfl, rfl⟩

/-! ## The rows of the opcode table -/

/-- A mask that keeps all but the low `k` bits selects the aligned range of `2 ^ k` words that the pattern starts. -/
theorem and_highMask_eq_iff {w k : Nat} {h p : BitVec w} (hp : 2 ^ k ∣ p.toNat) :
    h &&& BitVec.allOnes w <<< k = p ↔ p.toNat ≤ h.toNat ∧ h.toNat < p.toNat + 2 ^ k := by
  obtain ⟨q, hq⟩ := hp
  have hmod : h.toNat / 2 ^ k * 2 ^ k % 2 ^ w = h.toNat / 2 ^ k * 2 ^ k :=
    Nat.mod_eq_of_lt ((Nat.div_mul_le_self _ _).trans_lt h.isLt)
  rw [← BitVec.shiftLeft_ushiftRight, ← BitVec.toNat_inj, BitVec.toNat_shiftLeft, BitVec.toNat_ushiftRight,
    Nat.shiftLeft_eq, Nat.shiftRight_eq_div_pow, hmod, hq, mul_comm, Nat.mul_right_inj (by positivity),
    Nat.div_eq_iff (by positivity), mul_comm q]
  have := Nat.two_pow_pos k
  omega

theorem toNat_headerOf_sentinel (t : Byte) : (headerOf sentinel t).toNat = 0x5500 + t.toNat := by
  have h := BitVec.toNat_append sentinel t
  rw [← Nat.shiftLeft_add_eq_or_of_lt t.isLt] at h
  exact h

theorem headerOf_extract (h : Header) : headerOf (h.extractLsb' 8 8) (h.extractLsb' 0 8) = h := by
  unfold headerOf
  rw [BitVec.extractLsb'_append_extractLsb'_eq_extractLsb' (by rfl)]
  simp

/-- Every row of the table masks out some number `k` of low bits and has them zero in its pattern. -/
theorem headerRow_mask {j : Instr} {r : Row} (hj : headerRow j = some r) :
    ∃ k, 2 ^ k ∣ r.pattern.toNat ∧ r.mask = BitVec.allOnes 16 <<< k ∧ r.mask.toNat + 2 ^ k = 0x10000 := by
  cases j with
  | noop | toggle | relayMsg | relayRaw | relayBootpage | relayGps =>
    cases hj
    exact ⟨0, one_dvd _, rfl, rfl⟩
  | reserved0607 => cases hj; exact ⟨1, by decide, rfl, rfl⟩
  | reserved080F => cases hj; exact ⟨3, by decide, rfl, rfl⟩
  | reserved101F => cases hj; exact ⟨4, by decide, rfl, rfl⟩
  | reserved203F => cases hj; exact ⟨5, by decide, rfl, rfl⟩
  | reserved407F => cases hj; exact ⟨6, by decide, rfl, rfl⟩
  | reserved80FF => cases hj; exact ⟨7, by decide, rfl, rfl⟩
  | feed | reset => cases hj

/-- A row of the table is a range of headers that starts at its pattern. -/
theorem headerRow_holds_iff {j : Instr} {r : Row} (hj : headerRow j = some r) (h : Header) :
    r.holds h = true ↔ r.pattern.toNat ≤ h.toNat ∧ h.toNat + r.mask.toNat < r.pattern.toNat + 0x10000 := by
  obtain ⟨k, hp, hm, hk⟩ := headerRow_mask hj
  rw [Row.holds, decide_eq_true_iff, hm, and_highMask_eq_iff hp, ← hm]
  omega

/-- A header that lies in the row of some instruction is that of a well-formed instruction of that row (R74 to R76). -/
theorem exists_wellFormed_of_holds {j : Instr} {r : Row} {t : Byte} (hj : headerRow j = some r)
    (h : r.holds (headerOf sentinel t) = true) :
    ∃ i, i.wellFormed = true ∧ typeOf i = some t ∧ headerRow i = some r := by
  rw [headerRow_holds_iff hj, toNat_headerOf_sentinel] at h
  cases j with
  | noop | toggle | relayMsg | relayRaw | relayBootpage | relayGps =>
    refine ⟨_, rfl, ?_, hj⟩
    cases hj
    exact congrArg some (by bv_omega)
  | reserved0607 => cases hj; exact ⟨.reserved0607 t, decide_eq_true (by bv_omega), rfl, rfl⟩
  | reserved080F => cases hj; exact ⟨.reserved080F t, decide_eq_true (by bv_omega), rfl, rfl⟩
  | reserved101F => cases hj; exact ⟨.reserved101F t, decide_eq_true (by bv_omega), rfl, rfl⟩
  | reserved203F => cases hj; exact ⟨.reserved203F t, decide_eq_true (by bv_omega), rfl, rfl⟩
  | reserved407F => cases hj; exact ⟨.reserved407F t, decide_eq_true (by bv_omega), rfl, rfl⟩
  | reserved80FF => cases hj; exact ⟨.reserved80FF t, decide_eq_true (by bv_omega), rfl, rfl⟩
  | feed | reset => cases hj

/-- A row that holds a header is the row of what the header decodes to. -/
theorem headerRow_instrOfType_of_holds {j : Instr} {r : Row} {t : Byte} (hj : headerRow j = some r)
    (h : r.holds (headerOf sentinel t) = true) : headerRow (instrOfType t) = some r := by
  obtain ⟨i, hw, ht, hr⟩ := exists_wellFormed_of_holds hj h
  rwa [instrOfType_of_typeOf hw ht]

/-- The family TableRow, over all instructions. -/
theorem tableRow_statement : ∀ i : Instr, Laws.TableRow.Statement i
  | .noop => Laws.TableRow.noop
  | .toggle => Laws.TableRow.toggle
  | .relayMsg => Laws.TableRow.relayMsg
  | .relayRaw => Laws.TableRow.relayRaw
  | .relayBootpage => Laws.TableRow.relayBootpage
  | .relayGps => Laws.TableRow.relayGps
  | .reserved0607 t => Laws.TableRow.reserved0607 t
  | .reserved080F t => Laws.TableRow.reserved080F t
  | .reserved101F t => Laws.TableRow.reserved101F t
  | .reserved203F t => Laws.TableRow.reserved203F t
  | .reserved407F t => Laws.TableRow.reserved407F t
  | .reserved80FF t => Laws.TableRow.reserved80FF t
  | .feed b => Laws.TableRow.feed b
  | .reset => Laws.TableRow.reset

/-- The header of a well-formed frame instruction lies in the instruction's own row. -/
theorem headerRow_holds {i : Instr} {t : Byte} (hw : i.wellFormed = true) (ht : typeOf i = some t) :
    ∃ r, headerRow i = some r ∧ r.holds (headerOf sentinel t) = true := by
  have h := tableRow_statement i hw
  rw [encode_of_typeOf ht] at h
  cases hr : headerRow i with
  | none => simp [hr] at h
  | some r => exact ⟨r, rfl, by simpa [hr] using h⟩

/-- Settles O3: the decoded type byte lies in its own row, and whatever row holds it is the row of what it decodes to. -/
theorem acceptedHeaderLiesInOneTableRow : Obligations.AcceptedHeaderLiesInOneTableRow := by
  unfold Obligations.AcceptedHeaderLiesInOneTableRow
  intro h i hi
  obtain ⟨t, rest, hc, rfl⟩ | ⟨_, _, hc, _⟩ | ⟨_, hc, _⟩ := decode_cases hi
  · obtain ⟨hsync, ht, _⟩ : h.extractLsb' 8 8 = sentinel ∧ h.extractLsb' 0 8 = t ∧ [] = rest := by simpa using hc
    have hh : h = headerOf sentinel t := by rw [← headerOf_extract h, hsync, ht]
    subst hh
    obtain ⟨r, hr, hholds⟩ := headerRow_holds (wellFormed_instrOfType t) (typeOf_instrOfType t)
    refine ⟨r, hr, hholds, fun j r' hj hholds' => ?_⟩
    exact Option.some_inj.mp ((headerRow_instrOfType_of_holds hj hholds').symm.trans hr)
  · cases hc
  · cases hc

/-- Settles O4: only the sentinel begins a frame. -/
theorem headerWithoutSentinelIsRejected : Obligations.HeaderWithoutSentinelIsRejected := by
  unfold Obligations.HeaderWithoutSentinelIsRejected
  exact fun _ t rest h => decode_of_ne_sentinel h t rest

end Sys2Proof

/-!
PROOFS. One enabled arrival, told in the state it answers (40_detector.md R91, R93, R95; 41_frame_store.md R102):
whether FEED publishes can be read off the window, cursor and checksum after the step, which PUBLISH leaves alone.
-/

namespace Sys2Proof.Machine

/-! ## PUBLISH and FEED -/

/-- PUBLISH latches the window oldest byte first, and no byte past the frame (R102). -/
theorem State.read_publish_f {s : State} (h : s.f.wf = true) (i : Nat) :
    s.publish.f.read i = if i < s.cfg.N then s.w.read ((s.head + i) % s.cfg.N) else s.f.read i := by
  simp [Memory.read_copyIn h]

theorem State.synchronized_feed (s : State) (b : Byte) :
    (s.feed b).synchronized = (s.shiftIn b).synchronized := by
  obtain ⟨_, he⟩ | ⟨_, he⟩ := s.feed_cases b
  · rw [he]
    rfl
  · rw [he]

theorem State.feed_of_synchronized {s : State} {b : Byte} (h : (s.feed b).synchronized = true) :
    s.feed b = (s.shiftIn b).publish := by
  rw [State.synchronized_feed] at h
  simp [State.feed, h]

theorem State.feed_of_not_synchronized {s : State} {b : Byte} (h : ¬ (s.feed b).synchronized = true) :
    s.feed b = s.shiftIn b := by
  rw [State.synchronized_feed] at h
  simp [State.feed, h]

/-- On a detection the latch is the window that FEED leaves, oldest byte first (R95, R102). -/
theorem State.read_feed_f {s : State} {b : Byte} (hf : s.f.wf = true) (h : (s.feed b).synchronized = true) (i : Nat) :
    (s.feed b).f.read i =
      if i < s.cfg.N then (s.feed b).w.read (((s.feed b).head + i) % s.cfg.N) else s.f.read i := by
  rw [State.feed_of_synchronized h]
  exact State.read_publish_f (s := s.shiftIn b) hf i

/-- An enabled arrival is one FEED (R145). -/
theorem exec_feed_of_enabled {s : State} (hv : s.cfg.valid = true) (hs : s.suppress = false) (b : Byte) :
    exec (.feed b) s = .next (s.feed b) := by
  rw [exec_of_valid hv]
  simp [effect, State.arrive, hs]

/-- Settles O13: FEED's frame, shift and cursor hold in every case; the latch follows by whether FEED publishes. -/
theorem feedShiftsTheWindowAndPublishesOnDetection : Obligations.FeedShiftsTheWindowAndPublishesOnDetection := by
  unfold Obligations.FeedShiftsTheWindowAndPublishesOnDetection
  intro s b hv hs hw hf hlt
  have hmod : s.head % s.cfg.N = s.head := Nat.mod_eq_of_lt hlt
  refine ⟨s.feed b, exec_feed_of_enabled hv hs b, s.feed_frame b, ?checksum, ?newest, ?others, s.feed_head b,
    fun hd => ?detection, fun hd => ?silence⟩
  case checksum => rw [State.feed_ck, hmod]
  case newest => rw [State.feed_w, hmod, Memory.read_write_same hw]
  case others =>
    intro a ha
    rw [State.feed_w, hmod, Memory.read_write_other hw ha]
  case detection =>
    have hsync : (s.feed b).synchronized = true := State.synchronized_iff.mpr hd
    refine ⟨fun i hi => ?_, fun a ha => ?_, ?_⟩
    · rw [State.read_feed_f hf hsync, if_pos hi]
    · rw [State.read_feed_f hf hsync, if_neg (by omega)]
    · rw [State.feed_of_synchronized hsync]
      exact ⟨rfl, rfl⟩
  case silence =>
    rw [State.feed_of_not_synchronized (mt State.synchronized_iff.mp hd)]
    exact ⟨rfl, rfl, rfl⟩

end Sys2Proof.Machine

/-!
PROOFS. The handshake of the frame latch (41_frame_store.md R102, R103, R107): which operations write `F` and `TYPE` or
set `FA`, and which clear `FA`.
-/

namespace Sys2Proof.Machine

/-! ## A publication, seen from the state after it -/

/-- From `s` to `t` the latch was written: `F` or `TYPE` changed, or `FA` became 1 (R107). -/
def State.LatchWritten (s t : State) : Prop :=
  t.f ≠ s.f ∨ t.ftype ≠ s.ftype ∨ (s.fa = false ∧ t.fa = true)

theorem State.not_latchWritten_iff {s t : State} :
    ¬ s.LatchWritten t ↔ t.f = s.f ∧ t.ftype = s.ftype ∧ (t.fa = true → s.fa = true) := by
  simp only [State.LatchWritten, not_or, not_and', not_not, Bool.not_eq_false]

theorem State.not_latchWritten_self (s : State) : ¬ s.LatchWritten s :=
  State.not_latchWritten_iff.mpr ⟨rfl, rfl, id⟩

/-- A step of the Dispatcher other than X_RELEASE publishes nothing (R45). -/
theorem State.DispatcherWrites.not_latchWritten {s t : State} (h : s.DispatcherWrites t) : ¬ s.LatchWritten t := by
  obtain ⟨he, hfa⟩ := h
  exact State.not_latchWritten_iff.mpr ⟨(congrArg State.f he :), (congrArg State.ftype he :), hfa⟩

/-- FEED writes the latch only on a detection, and `FA` is then 1 (R95, R96, R102). -/
theorem State.feed_latchWritten {r s : State} {b : Byte} (h : r.LatchWritten (s.feed b)) :
    ((s.feed b).synchronized = true ∧ (s.feed b).fa = true) ∨ r.LatchWritten s := by
  by_cases hd : (s.feed b).synchronized = true
  · refine .inl ⟨hd, ?_⟩
    rw [State.feed_of_synchronized hd, State.publish_fa]
  · rw [State.feed_of_not_synchronized hd] at h
    exact .inr h

/-- Whichever of the FEEDs published, no later one cleared `FA`. -/
theorem State.feedAll_latchWritten {s : State} {bs : List Byte} (h : s.LatchWritten (s.feedAll bs)) :
    (s.feedAll bs).fa = true := by
  refine State.feedAll_induct (P := fun u => s.LatchWritten u → u.fa = true) (fun u b ih hw => ?_) bs
    (fun hs => absurd hs s.not_latchWritten_self) h
  obtain ⟨_, hfa⟩ | hu := State.feed_latchWritten hw
  · exact hfa
  · exact u.feed_fa_mono b (ih hu)

/-- A masked arrival publishes nothing, an enabled one only on a detection (R93, R147). -/
theorem State.arrive_latchWritten {s : State} {b : Byte} (h : s.LatchWritten (s.arrive b)) :
    s.suppress = false ∧ (s.arrive b).synchronized = true ∧ (s.arrive b).fa = true := by
  obtain ⟨hs, he⟩ | ⟨_, _, he⟩ | ⟨_, _, he⟩ := s.arrive_cases b
  all_goals rw [he] at h ⊢
  · exact ⟨hs, (State.feed_latchWritten h).resolve_right s.not_latchWritten_self⟩
  · exact absurd h s.not_latchWritten_self
  · exact absurd h s.not_latchWritten_self

/-- X_RELEASE publishes only out of held bytes (R148). -/
theorem State.xRelease_latchWritten {s : State} (h : s.LatchWritten s.xRelease) :
    s.hold ≠ [] ∧ s.xRelease.fa = true := by
  rw [State.xRelease_eq] at h ⊢
  refine ⟨fun hnil => ?_, State.feedAll_latchWritten h⟩
  rw [hnil] at h
  exact s.not_latchWritten_self h

/-! ## Only a TAKE clears `FA` -/

/-- No behaviour step but X_RELEASE writes `FA`: the loop tests only poll it (R104, R131). -/
theorem State.behave_fa {s : State} (hx : s.dstate ≠ .xRelease) : s.behave.fa = s.fa := by
  cases hd : s.dstate with
  | xRelease => exact absurd hd hx
  | rmTop =>
    rw [State.behave_rmTop hd]
    obtain ⟨_, he⟩ | ⟨_, he⟩ := s.rmTop_cases
    all_goals simp [he]
  | bpLoop =>
    rw [State.behave_bpLoop hd]
    obtain ⟨_, he⟩ | ⟨_, _, he⟩ := s.bpLoop_cases
    all_goals simp [he]
  | gpsLoop =>
    rw [State.behave_gpsLoop hd]
    obtain ⟨_, he⟩ | ⟨_, _, _, he⟩ := s.gpsLoop_cases
    all_goals simp [he]
  | idle => rw [State.behave_idle hd]
  | tgl | rmOn | rmSend | rmOff | bpEnter | gpsEnter | xPulseOn | xPulseOff =>
    rw [State.behave, hd]
    rfl

/-- No behaviour step clears `FA`. -/
theorem State.behave_fa_mono {s : State} (h : s.fa = true) : s.behave.fa = true := by
  by_cases hx : s.dstate = .xRelease
  · obtain ⟨_, hfa⟩ := s.xRelease_frame
    rw [State.behave_xRelease hx]
    exact hfa h
  · rw [State.behave_fa hx, h]

/-! ## The handshake over one step -/

theorem step_latchWritten {s t : State} (h : step s = .next t) (hr : ∀ rest, s.sched ≠ .reset :: rest)
    (hw : s.LatchWritten t) :
    t.fa = true ∧
    ((∃ b rest, s.sched = .arrive b :: rest ∧ s.suppress = false ∧ t.synchronized = true) ∨
     (s.behaving .xRelease ∧ s.hold ≠ [])) := by
  obtain ⟨_, ⟨b, rest, hs, rfl⟩ | ⟨rest, hs, _⟩ | ⟨_, _, rfl⟩ | ⟨hd, _, rfl⟩⟩ := step_cases h
  · obtain ⟨hsup, hsync, hfa⟩ := State.arrive_latchWritten (s := s.takeTurn) hw
    exact ⟨hfa, .inl ⟨b, rest, hs, hsup, hsync⟩⟩
  · exact absurd hs (hr rest)
  · exact absurd hw (s.takeTurn.decode_dispatcherWrites s.ftype).not_latchWritten
  · by_cases hx : s.takeTurn.dstate = .xRelease
    · rw [State.behave_xRelease hx] at hw ⊢
      obtain ⟨hhold, hfa⟩ := State.xRelease_latchWritten (s := s.takeTurn) hw
      exact ⟨hfa, .inr ⟨⟨hd, hx⟩, hhold⟩⟩
    · exact absurd hw (State.behave_dispatcherWrites hx).not_latchWritten

theorem step_clears_fa {s t : State} (h : step s = .next t) (hr : ∀ rest, s.sched ≠ .reset :: rest)
    (hs : s.fa = true) (ht : t.fa = false) : s.behaving .idle := by
  obtain ⟨_, ⟨b, _, _, rfl⟩ | ⟨rest, hsched, _⟩ | ⟨hd, he, _⟩ | ⟨_, _, rfl⟩⟩ := step_cases h
  · obtain ⟨_, hfa, _⟩ := s.takeTurn.arrive_frame b
    simp [hfa hs] at ht
  · exact absurd hsched (hr rest)
  · obtain ⟨hidle, _⟩ := State.decodeEnabled_iff.mp he
    exact ⟨hd, hidle⟩
  · simp [State.behave_fa_mono (s := s.takeTurn) hs] at ht

/-- Settles O32: the latch is written in FEEDs only, which never clear `FA`; of the Dispatcher's steps DECODE alone clears
it. -/
theorem onlyPublishSetsAndOnlyTakeClears : Obligations.OnlyPublishSetsAndOnlyTakeClears := by
  unfold Obligations.OnlyPublishSetsAndOnlyTakeClears
  intro s t h hr
  refine ⟨fun hw => ?_, fun ⟨hs, ht⟩ => step_clears_fa h hr hs ht⟩
  obtain ⟨hfa, ⟨b, rest, hs, hsup, hsync⟩ | hrelease⟩ := step_latchWritten h hr hw
  · exact ⟨hfa, .inl ⟨b, rest, hs, hsup, State.synchronized_iff.mp hsync⟩⟩
  · exact ⟨hfa, .inr hrelease⟩

end Sys2Proof.Machine

/-!
PROOFS. The Dispatcher (42_dispatcher.md R109 to R131): what a step runs, told from whose turn it is, and then the DECODE
and behaviour steps one by one.
-/

namespace Sys2Proof.Machine

/-! ## A step runs what it fetches -/

/-- A fetched code that decodes is executed (30_encoding.md R90). -/
theorem step_eq_exec {s : State} {c : Code} {i : Instr} (hf : s.fetch = some c) (hc : decode c = .ok i) :
    step s = exec i s.takeTurn := by
  simp [step, State.nextInstr, hf, decode?, hc]

theorem step_eq_behaviourStep {s : State} (hf : s.fetch = none) : step s = behaviourStep s.takeTurn := by
  simp [step, State.nextInstr, hf]

theorem State.fetch_of_arrive {s : State} {b : Byte} {rest : List Turn} (hs : s.sched = .arrive b :: rest) :
    s.fetch = some ⟨.rxByte, [b]⟩ := by
  simp [State.fetch, hs]

theorem State.fetch_of_reset {s : State} {rest : List Turn} (hs : s.sched = .reset :: rest) :
    s.fetch = some ⟨.resetInput, [1]⟩ := by
  simp [State.fetch, hs]

/-- On its turn the Dispatcher fetches the latched frame's header, or nothing (R111). -/
theorem State.fetch_of_dispatcherTurn {s : State} (hturn : s.dispatcherTurn = true) :
    s.fetch = if s.decodeEnabled then some ⟨.frameHdr16, [sentinel, s.ftype]⟩ else none := by
  rcases hs : s.sched with _ | ⟨_ | _ | _, _⟩
  case nil | dispatcher => simp [State.fetch, hs]
  case arrive | reset => simp [State.dispatcherTurn, hs] at hturn

theorem step_of_decodeEnabled {s : State} (hturn : s.dispatcherTurn = true) (he : s.decodeEnabled = true) :
    step s = exec (instrOfType s.ftype) s.takeTurn :=
  step_eq_exec (by rw [State.fetch_of_dispatcherTurn hturn, if_pos he]) (decode_sentinel s.ftype [])

/-- A Dispatcher state other than IDLE runs its behaviour step (R109). -/
theorem step_of_behaving {s : State} {d : DState} (hv : s.cfg.valid = true) (hb : s.behaving d) (hd : d ≠ .idle) :
    step s = .next s.takeTurn.behave := by
  obtain ⟨hturn, rfl⟩ := hb
  have he : ¬ s.decodeEnabled = true := fun he => hd (State.decodeEnabled_iff.mp he).1
  have hf : s.fetch = none := by rw [State.fetch_of_dispatcherTurn hturn, if_neg he]
  rw [step_eq_behaviourStep hf]
  exact State.complete_of_valid (s := s.takeTurn) hv _

/-- A latched frame decodes by its byte 1, the `TYPE` (R72, R75). -/
theorem decode_latch {m : Memory} {n : Nat} {i : Instr} (h : decode ⟨.frameHdr16, m.bytes n⟩ = .ok i) :
    i = instrOfType (m.read 1) := by
  obtain ⟨t, rest, hc, rfl⟩ | ⟨_, _, hc, _⟩ | ⟨_, hc, _⟩ := decode_cases h
  · have hbytes : m.bytes n = sentinel :: t :: rest := congrArg Code.bytes hc
    have hone : (m.bytes n)[1]? = some t := by rw [hbytes]; rfl
    obtain ⟨_, ht⟩ := List.getElem?_eq_some_iff.mp hone
    rw [← ht, Memory.getElem_bytes]
  · cases hc
  · cases hc

/-- Settles O6: the schedule's head, or the latch under the guard of DECODE, is the code that the step fetches. -/
theorem stepExecutesTheDecodedInstruction : Obligations.StepExecutesTheDecodedInstruction := by
  unfold Obligations.StepExecutesTheDecodedInstruction
  intro s
  refine ⟨fun b rest hs => ?arrival, fun rest hs => ?reset, fun i _ htype hturn hidle hfa hdec => ?decode⟩
  case arrival =>
    obtain rfl : s.sched.tail = rest := by rw [hs]; rfl
    exact step_eq_exec (State.fetch_of_arrive hs) rfl
  case reset =>
    obtain rfl : s.sched.tail = rest := by rw [hs]; rfl
    exact step_eq_exec (State.fetch_of_reset hs) rfl
  case decode =>
    rw [decode_latch hdec, ← htype]
    exact step_of_decodeEnabled hturn (State.decodeEnabled_iff.mpr ⟨hidle, hfa⟩)

/-! ## DECODE: the packet types -/

/-- Settles O7: the effect is TAKE and the return to IDLE. -/
theorem noopOnlyConsumesItsFrame : Obligations.NoopOnlyConsumesItsFrame := by
  unfold Obligations.NoopOnlyConsumesItsFrame
  exact fun _ hv => exec_of_valid hv .noop

/-- A copy to the front of an array: the copied bytes, then the array as before. -/
theorem Memory.read_copyIn_zero {m : Memory} (h : m.wf = true) (g : Nat → Byte) (n a : Nat) :
    (m.copyIn 0 g n).read a = if a < n then g a else m.read a := by
  simp [Memory.read_copyIn h]

theorem Memory.bytes_copyIn_zero {m : Memory} (h : m.wf = true) (g : Nat → Byte) (n : Nat) :
    (m.copyIn 0 g n).bytes n = (List.range n).map g := by
  refine List.map_congr_left fun k hk => ?_
  rw [Memory.read_copyIn_zero h, if_pos (List.mem_range.mp hk)]

/-- A sealed record: the checksum of the bytes before it at `S − 1`, every other byte as before (R84). -/
theorem Memory.read_withChecksum {m : Memory} (h : m.wf = true) (c : Config) (a : Nat) :
    (m.withChecksum c).read a = if a = c.ckOff then Config.ckfn (m.bytes c.ckOff) else m.read a :=
  Memory.read_write h _ _ _

/-- RELAY_MSG's record, byte by byte (R78, R115). -/
theorem State.read_relayMessage {s : State} (h : s.msg.wf = true) (a : Nat) :
    s.relayMessage.read a =
      if a = s.cfg.lay.S - 1 then Config.ckfn ((List.range (s.cfg.lay.S - 1)).map s.payload)
      else if a < s.cfg.lay.S - 1 then s.payload a else s.msg.read a := by
  rw [State.relayMessage, Memory.read_withChecksum (Memory.wf_copyIn h _ _ _), Config.ckOff,
    Memory.bytes_copyIn_zero h, Memory.read_copyIn_zero h]

/-- Settles O10: the record's three ranges are below `S − 1`, at `S − 1` and, as `S` is not 0, from `S` on. -/
theorem relayMsgCopiesPayloadAndRecomputesChecksum : Obligations.RelayMsgCopiesPayloadAndRecomputesChecksum := by
  unfold Obligations.RelayMsgCopiesPayloadAndRecomputesChecksum
  intro s hv hwf
  obtain ⟨_, ⟨hS, _⟩, _⟩ := Config.valid_iff.mp hv
  refine ⟨s.relayMessage, exec_of_valid hv .relayMsg, State.wf_relayMessage hwf, fun k hk => ?payload, ?checksum,
    fun a ha => ?beyond⟩
  case payload =>
    rw [State.read_relayMessage hwf, if_neg (by omega), if_pos hk]
    rfl
  case checksum =>
    rw [State.read_relayMessage hwf, if_pos rfl]
    rfl
  case beyond => rw [State.read_relayMessage hwf, if_neg (by omega), if_neg (by omega)]

/-- RELAY_RAW's record, byte by byte (R79, R116). -/
theorem State.read_rawMessage {s : State} (h : s.msg.wf = true) (a : Nat) :
    s.rawMessage.read a = if a < s.cfg.lay.S then s.payload a else s.msg.read a :=
  Memory.read_copyIn_zero h _ _ _

/-- Settles O11: the record is one copy of `S` bytes. -/
theorem relayRawCopiesPayloadVerbatim : Obligations.RelayRawCopiesPayloadVerbatim := by
  unfold Obligations.RelayRawCopiesPayloadVerbatim
  intro s hv hwf
  refine ⟨s.rawMessage, exec_of_valid hv .relayRaw, State.wf_rawMessage hwf, fun k hk => ?payload, fun a ha => ?beyond⟩
  case payload =>
    rw [State.read_rawMessage hwf, if_pos hk]
    rfl
  case beyond => rw [State.read_rawMessage hwf, if_neg (by omega)]

/-! ## Behaviour steps -/

/-- RM_TOP is one transition, whose target `FA` chooses (R117). -/
theorem State.rmTop_eq (s : State) : s.rmTop = s.goto (if s.fa then .idle else .rmOn) := by
  obtain ⟨hfa, he⟩ | ⟨hfa, he⟩ := s.rmTop_cases
  all_goals simp [he, hfa]

/-- Settles O17: RM_TOP writes DSTATE only. -/
theorem relayLoopTopLeavesOnAFreshFrame : Obligations.RelayLoopTopLeavesOnAFreshFrame := by
  unfold Obligations.RelayLoopTopLeavesOnAFreshFrame
  intro s hv hb
  rw [step_of_behaving hv hb nofun, State.behave_rmTop (s := s.takeTurn) hb.2, State.rmTop_eq]
  rfl

/-- Settles O18: the Send and the transition of RM_SEND. -/
theorem relayLoopSendsTheMessageBuffer : Obligations.RelayLoopSendsTheMessageBuffer := by
  unfold Obligations.RelayLoopSendsTheMessageBuffer
  intro s hv hb
  rw [step_of_behaving hv hb nofun, State.behave_rmSend (s := s.takeTurn) hb.2]
  rfl

/-- Settles O20: both ENTER steps set the mask and the index, and differ in the loop they go to. -/
theorem enterStepsSuppressArrivals : Obligations.EnterStepsSuppressArrivals := by
  unfold Obligations.EnterStepsSuppressArrivals
  intro s hv
  refine ⟨fun hb => ?bootPage, fun hb => ?gps⟩
  case bootPage =>
    rw [step_of_behaving hv hb nofun, State.behave_bpEnter (s := s.takeTurn) hb.2]
    rfl
  case gps =>
    rw [step_of_behaving hv hb nofun, State.behave_gpsEnter (s := s.takeTurn) hb.2]
    rfl

/-! ## The loop tests under a fresh frame (R131) -/

section LoopTests
variable {s : State} (hfa : s.fa = true)
include hfa

theorem State.rmTop_of_fresh : s.rmTop = s.goto .idle := by
  rw [State.rmTop_eq, if_pos hfa]

theorem State.bpLoop_of_fresh : s.bpLoop = s.goto .xRelease := by
  obtain ⟨_, he⟩ | ⟨_, hno, _⟩ := s.bpLoop_cases
  · exact he
  · simp [hfa] at hno

theorem State.gpsLoop_of_fresh : s.gpsLoop = s.goto .xRelease := by
  obtain ⟨_, he⟩ | ⟨_, hno, _⟩ := s.gpsLoop_cases
  · exact he
  · simp [hfa] at hno

/-- A fresh frame ends each of the three loops, and the test only moves on (R117, R123, R126). -/
theorem State.behave_of_fresh (hloop : s.dstate = .rmTop ∨ s.dstate = .bpLoop ∨ s.dstate = .gpsLoop) :
    ∃ d, (d = .idle ∨ d = .xRelease) ∧ s.behave = s.goto d := by
  obtain hd | hd | hd := hloop
  · exact ⟨.idle, .inl rfl, by rw [State.behave_rmTop hd, State.rmTop_of_fresh hfa]⟩
  · exact ⟨.xRelease, .inr rfl, by rw [State.behave_bpLoop hd, State.bpLoop_of_fresh hfa]⟩
  · exact ⟨.xRelease, .inr rfl, by rw [State.behave_gpsLoop hd, State.gpsLoop_of_fresh hfa]⟩

end LoopTests

/-- Settles O35: no test writes `FA`, and with `FA = 1` each test is a bare transition out of its loop. -/
theorem loopTestsPollWithoutConsuming : Obligations.LoopTestsPollWithoutConsuming := by
  unfold Obligations.LoopTestsPollWithoutConsuming
  intro s t hb h
  obtain ⟨hturn, hloop⟩ : s.dispatcherTurn = true ∧ (s.dstate = .rmTop ∨ s.dstate = .bpLoop ∨ s.dstate = .gpsLoop) := by
    simpa only [State.behaving, ← and_or_left] using hb
  have hidle : s.dstate ≠ .idle := fun hd => by simp [hd] at hloop
  have hrelease : s.dstate ≠ .xRelease := fun hd => by simp [hd] at hloop
  obtain ⟨hv, _⟩ := step_cases h
  obtain rfl : s.takeTurn.behave = t := by simpa [step_of_behaving hv ⟨hturn, rfl⟩ hidle] using h
  refine ⟨State.behave_fa (s := s.takeTurn) hrelease, fun hfa => ?_⟩
  obtain ⟨d, hd, he⟩ := State.behave_of_fresh (s := s.takeTurn) hfa hloop
  rw [he]
  exact ⟨rfl, rfl, hd⟩

end Sys2Proof.Machine

/-!
PROOFS. The arrival mask (60_exceptions.md R146, R147): what a masked arrival leaves alone, and which steps write
`SUPPRESS`.
-/

namespace Sys2Proof.Machine

/-- A masked arrival writes `HOLD` only (R147). -/
theorem State.arrive_of_suppress {s : State} (h : s.suppress = true) (b : Byte) :
    s.arrive b = { s with hold := (s.arrive b).hold } := by
  obtain ⟨hno, _⟩ | ⟨_, _, he⟩ | ⟨_, _, he⟩ := s.arrive_cases b
  · simp [h] at hno
  all_goals rw [he]

@[simp] theorem State.arrive_suppress (s : State) (b : Byte) : (s.arrive b).suppress = s.suppress := by
  obtain ⟨he, _⟩ := s.arrive_frame b
  exact (congrArg State.suppress he :)

theorem DState.suppressed_of_relaying {d : DState} (h : d.relaying = true) : d.suppressed = false :=
  match d, h with
  | .rmTop, _ | .rmOn, _ | .rmSend, _ | .rmOff, _ => rfl

@[simp] theorem State.rmTop_suppress (s : State) : s.rmTop.suppress = s.suppress := by
  rw [State.rmTop_eq, State.goto_suppress]

@[simp] theorem State.bpLoop_suppress (s : State) : s.bpLoop.suppress = s.suppress := by
  obtain ⟨_, he⟩ | ⟨_, _, he⟩ := s.bpLoop_cases
  all_goals simp [he]

@[simp] theorem State.gpsLoop_suppress (s : State) : s.gpsLoop.suppress = s.suppress := by
  obtain ⟨_, he⟩ | ⟨_, _, _, he⟩ := s.gpsLoop_cases
  all_goals simp [he]

/-- DECODE leaves the mask alone, whatever the type: types 4 and 5 stay unmasked until their ENTER step (R121, R124). -/
theorem State.decode_suppress (s : State) (ty : Byte) : (effect (instrOfType ty) s).suppress = s.suppress := by
  obtain ⟨_, he⟩ | ⟨_, he⟩ | ⟨_, he⟩ | ⟨_, he⟩ | ⟨_, he⟩ | ⟨_, he⟩ := decode_arms ty s
  all_goals simp [he]

/-- What a behaviour step does to the mask: ENTER sets it, X_RELEASE clears it, every other step leaves it. -/
theorem State.behave_suppress_cases (s : State) :
    ((s.dstate = .bpEnter ∨ s.dstate = .gpsEnter) ∧ s.behave.suppress = true) ∨
    (s.dstate = .xRelease ∧ s.behave.suppress = false) ∨
    s.behave.suppress = s.suppress := by
  cases hd : s.dstate with
  | bpEnter => exact .inl ⟨.inl rfl, by rw [State.behave_bpEnter hd]; rfl⟩
  | gpsEnter => exact .inl ⟨.inr rfl, by rw [State.behave_gpsEnter hd]; rfl⟩
  | xRelease => exact .inr (.inl ⟨rfl, by rw [State.behave_xRelease hd, State.xRelease_eq]⟩)
  | rmTop => exact .inr (.inr (by rw [State.behave_rmTop hd, State.rmTop_suppress]))
  | bpLoop => exact .inr (.inr (by rw [State.behave_bpLoop hd, State.bpLoop_suppress]))
  | gpsLoop => exact .inr (.inr (by rw [State.behave_gpsLoop hd, State.gpsLoop_suppress]))
  | idle => exact .inr (.inr (by rw [State.behave_idle hd]))
  | tgl | rmOn | rmSend | rmOff | xPulseOn | xPulseOff =>
    exact .inr (.inr (by rw [State.behave, hd]; rfl))

/-- What a step does to the mask: ENTER sets it, X_RELEASE and RESET clear it, every other step leaves it (R146). -/
theorem step_suppress_cases {s t : State} (h : step s = .next t) :
    ((s.behaving .bpEnter ∨ s.behaving .gpsEnter) ∧ t.suppress = true) ∨
    ((s.behaving .xRelease ∨ ∃ rest, s.sched = .reset :: rest) ∧ t.suppress = false) ∨
    t.suppress = s.suppress := by
  obtain ⟨_, ⟨b, _, _, rfl⟩ | ⟨rest, hs, rfl⟩ | ⟨_, _, rfl⟩ | ⟨hturn, _, rfl⟩⟩ := step_cases h
  · exact .inr (.inr (s.takeTurn.arrive_suppress b))
  · exact .inr (.inl ⟨.inr ⟨rest, hs⟩, rfl⟩)
  · exact .inr (.inr (s.takeTurn.decode_suppress s.ftype))
  · obtain ⟨henter, hon⟩ | ⟨hrelease, hoff⟩ | hkeep := s.takeTurn.behave_suppress_cases
    · exact .inl ⟨henter.imp (⟨hturn, ·⟩) (⟨hturn, ·⟩), hon⟩
    · exact .inr (.inl ⟨.inl ⟨hturn, hrelease⟩, hoff⟩)
    · exact .inr (.inr hkeep)

/-- Settles O34: a masked arrival writes `HOLD` only, the steps that write the mask are the ENTER steps, X_RELEASE and
RESET, and by R43 a relaying state is not a suppressed one. -/
theorem suppressionCoversExactlyTheTwoLoops : Obligations.SuppressionCoversExactlyTheTwoLoops := by
  unfold Obligations.SuppressionCoversExactlyTheTwoLoops
  intro s t h
  refine ⟨fun b rest hs hmask => ?arrival, fun hoff hon => ?set, fun hon hoff => ?clear, fun hinv hrelay => ?relay⟩
  case arrival =>
    obtain rfl := step_of_arrive h hs
    rw [State.arrive_of_suppress (s := s.takeTurn) hmask b]
    exact ⟨rfl, rfl, rfl, rfl, rfl, rfl⟩
  case set =>
    obtain ⟨henter, _⟩ | ⟨_, hclear⟩ | hkeep := step_suppress_cases h
    · exact henter
    · simp [hon] at hclear
    · simp [hon, hoff] at hkeep
  case clear =>
    obtain ⟨_, hset⟩ | ⟨hrelease, _⟩ | hkeep := step_suppress_cases h
    · simp [hoff] at hset
    · exact hrelease
    · simp [hon, hoff] at hkeep
  case relay => rw [hinv.supp_iff, DState.suppressed_of_relaying hrelay]

end Sys2Proof.Machine

/-!
PROOFS. The inputs and the DECODE arms that set nothing up (60_exceptions.md R147; 70_reset_and_hazards.md R161;
42_dispatcher.md R121, R124, R130), and the state after reset.
-/

namespace Sys2Proof.Machine

/-- Settles O5: the seven words, decoded by evaluation. -/
theorem writtenOutWordsDecode : Obligations.WrittenOutWordsDecode := by
  unfold Obligations.WrittenOutWordsDecode
  decide

/-- Settles O8: each reserved row completes TAKE and the return to IDLE. -/
theorem reservedTypesAreConsumedAndIgnored : Obligations.ReservedTypesAreConsumedAndIgnored := by
  unfold Obligations.ReservedTypesAreConsumedAndIgnored
  intro s t hv i hi
  rw [exec_of_valid hv]
  simp only [List.mem_cons, List.not_mem_nil, or_false] at hi
  obtain rfl | rfl | rfl | rfl | rfl | rfl := hi
  all_goals rfl

/-- Settles O12: both arms are TAKE and one transition. -/
theorem bootpageAndGpsFramesGoToTheirEnterState : Obligations.BootpageAndGpsFramesGoToTheirEnterState := by
  unfold Obligations.BootpageAndGpsFramesGoToTheirEnterState
  exact fun _ hv => ⟨exec_of_valid hv .relayBootpage, exec_of_valid hv .relayGps⟩

/-! ## A masked arrival (R147) -/

theorem State.arrive_of_room {s : State} (h : s.suppress = true) (hroom : s.hold.length < s.cfg.rxHoldDepth)
    (b : Byte) : s.arrive b = { s with hold := s.hold ++ [b] } := by
  simp [State.arrive, State.holdByte, h, hroom]

theorem State.arrive_of_full {s : State} (h : s.suppress = true) (hfull : s.cfg.rxHoldDepth ≤ s.hold.length)
    (b : Byte) : s.arrive b = s := by
  simp [State.arrive, State.holdByte, h, hfull.not_gt]

/-- Settles O14: `HOLD` has room for the byte, or it has none. -/
theorem maskedArrivalIsHeldOrLost : Obligations.MaskedArrivalIsHeldOrLost := by
  unfold Obligations.MaskedArrivalIsHeldOrLost
  intro s b hv hs
  rw [exec_of_valid hv]
  exact ⟨fun hroom => congrArg _ (State.arrive_of_room hs hroom b),
    fun hfull => congrArg _ (State.arrive_of_full hs hfull b)⟩

/-! ## RESET and the state after it (R161) -/

/-- Settles O15: `toReset` lists the reset values, and an empty array reads 0x00. -/
theorem resetInputClearsAllCoreState : Obligations.ResetInputClearsAllCoreState := by
  unfold Obligations.ResetInputClearsAllCoreState
  intro s hv
  refine ⟨s.toReset, exec_of_valid hv .reset, fun _ => ⟨rfl, rfl, rfl⟩, ?_⟩
  exact ⟨rfl, rfl, rfl, rfl, rfl, rfl, rfl, rfl, rfl, rfl, rfl, rfl⟩

/-- The default configuration meets R15, whatever its two OPEN tags are. -/
theorem reset_valid : State.reset.cfg.valid = true := by decide

/-- Settles O16: the fields of the literal `State.reset`. -/
theorem resetStateHoldsTheResetValues : Obligations.ResetStateHoldsTheResetValues := by
  unfold Obligations.ResetStateHoldsTheResetValues
  refine ⟨fun _ => ⟨rfl, rfl, rfl⟩, ?_⟩
  exact ⟨rfl, rfl, rfl, rfl, rfl, rfl, rfl, rfl, rfl, rfl, rfl, reset_valid⟩

/-- Settles O25: the arrays are empty, nothing has been published, and `N` is not 0. -/
theorem invariantHoldsAtReset : Obligations.InvariantHoldsAtReset where
  valid := reset_valid
  w_wf := rfl
  f_wf := rfl
  msg_wf := rfl
  w_within := rfl
  f_within := rfl
  msg_within := rfl
  head_lt := (by decide : 0 < 132)
  checksum := (xorRange_read_nil _).symm
  type_eq := rfl
  frame := .inl ⟨rfl, rfl, rfl⟩
  cnt_le := Nat.zero_le _
  hold_le := Nat.zero_le _
  hold_supp := fun hne => absurd rfl hne
  supp_iff := rfl

/-! ## Every step completes an effect (R20, R141, R142) -/

/-- Whoever's turn it is, the step is a completion under the configuration. -/
theorem step_eq_complete (s : State) : ∃ t, step s = s.takeTurn.complete t := by
  obtain ⟨b, _, _, he⟩ | ⟨_, _, he⟩ | ⟨_, _, he⟩ | ⟨_, _, he⟩ := step_kinds s
  · exact ⟨_, he.trans (exec_eq_complete _ _)⟩
  · exact ⟨_, he.trans (exec_eq_complete _ _)⟩
  · exact ⟨_, he.trans (exec_eq_complete _ _)⟩
  · exact ⟨_, he⟩

/-- Settles O27: no fault exists, and under a valid configuration a completion is a next state. -/
theorem noStepOfTheCoreCanFail : Obligations.NoStepOfTheCoreCanFail := by
  unfold Obligations.NoStepOfTheCoreCanFail
  intro s
  refine ⟨nofun, fun _ => nofun, fun hv => ⟨?_, fun i => ⟨_, exec_of_valid hv i⟩⟩⟩
  obtain ⟨t, ht⟩ := step_eq_complete s
  exact ⟨t, ht.trans (State.complete_of_valid (s := s.takeTurn) hv t)⟩

/-- Settles O28: under an invalid configuration a completion is the refusal. -/
theorem invalidConfigurationIsRefused : Obligations.InvalidConfigurationIsRefused := by
  unfold Obligations.InvalidConfigurationIsRefused
  intro s hv
  obtain ⟨t, ht⟩ := step_eq_complete s
  refine ⟨ht.trans (State.complete_of_invalid (s := s.takeTurn) hv t), fun i => ?_⟩
  rw [exec_eq_complete, State.complete_of_invalid hv]

end Sys2Proof.Machine

/-!
PROOFS. The Dispatcher's steps one by one (42_dispatcher.md R110, R114, R118, R120, R123, R126 to R129), and the Message
records of the two suppressed loops against the tables of 30_encoding.md (R84 to R89).
-/

namespace Sys2Proof.Machine

/-- In IDLE without a frame a turn of the Dispatcher is a wait (R110). -/
theorem step_of_waiting {s : State} (hv : s.cfg.valid = true) (hb : s.behaving .idle) (hfa : s.fa = false) :
    step s = .next s.takeTurn := by
  obtain ⟨hturn, hidle⟩ := hb
  have he : ¬ s.decodeEnabled = true := by simp [State.decodeEnabled_iff, hfa]
  have hf : s.fetch = none := by rw [State.fetch_of_dispatcherTurn hturn, if_neg he]
  rw [step_eq_behaviourStep hf, behaviourStep, State.behave_idle (s := s.takeTurn) hidle]
  exact State.complete_of_valid (s := s.takeTurn) hv _

/-- Settles O24: the wait. -/
theorem idleWithoutFrameWaits : Obligations.IdleWithoutFrameWaits := by
  unfold Obligations.IdleWithoutFrameWaits
  exact fun _ hv hb hfa => step_of_waiting hv hb hfa

/-- Settles O9: DECODE is TAKE and the transition to TGL, whose one step flips and drives the line. -/
theorem toggleFrameFlipsAndDrivesLineZero : Obligations.ToggleFrameFlipsAndDrivesLineZero := by
  unfold Obligations.ToggleFrameFlipsAndDrivesLineZero
  intro s hv
  refine ⟨exec_of_valid hv .toggle, fun hb => ?_⟩
  rw [step_of_behaving hv hb nofun, State.behave_tgl (s := s.takeTurn) hb.2]
  rfl

/-- Settles O19: each of the four rows is one event and one transition. -/
theorem pulseStepsDriveLineOne : Obligations.PulseStepsDriveLineOne := by
  unfold Obligations.PulseStepsDriveLineOne
  intro s hv d e v hrow hb
  simp only [List.mem_cons, Prod.mk.injEq, List.not_mem_nil, or_false] at hrow
  obtain ⟨rfl, rfl, rfl⟩ | ⟨rfl, rfl, rfl⟩ | ⟨rfl, rfl, rfl⟩ | ⟨rfl, rfl, rfl⟩ := hrow
  all_goals rw [step_of_behaving hv hb nofun]
  · rw [State.behave_rmOn (s := s.takeTurn) hb.2]
    rfl
  · rw [State.behave_rmOff (s := s.takeTurn) hb.2]
    rfl
  · rw [State.behave_xPulseOn (s := s.takeTurn) hb.2]
    rfl
  · rw [State.behave_xPulseOff (s := s.takeTurn) hb.2]
    rfl

/-- Settles O23: with the mask off, executing the held bytes as FEEDs is what RELEASE_HOLD does with them. -/
theorem releaseFeedsTheHeldBytesInOrder : Obligations.ReleaseFeedsTheHeldBytesInOrder := by
  unfold Obligations.ReleaseFeedsTheHeldBytesInOrder
  intro s hv hb
  refine ⟨_, execAll_feed (s := s.takeTurn.clearSuppress) s.hold hv rfl, ?_⟩
  rw [step_of_behaving hv hb nofun, State.behave_xRelease (s := s.takeTurn) hb.2]
  rfl

/-! ## The Message records, field by field -/

/-- The `S` bytes of a sealed record (R84). -/
theorem Memory.bytes_withChecksum {m : Memory} {c : Config} (h : m.wf = true) (hv : c.valid = true) :
    (m.withChecksum c).bytes c.lay.S = sealed (m.bytes (c.lay.S - 1)) := by
  obtain ⟨_, ⟨hS, _⟩, _⟩ := Config.valid_iff.mp hv
  obtain ⟨n, hn⟩ : ∃ n, c.lay.S = n + 1 := ⟨c.lay.S - 1, by omega⟩
  have hoff : c.ckOff = n := by rw [Config.ckOff, hn, Nat.add_sub_cancel]
  have hbody : (m.withChecksum c).bytes n = m.bytes n := Memory.bytes_congr fun k hk => by
    rw [Memory.read_withChecksum h, hoff, if_neg hk.ne]
  have hck : (m.withChecksum c).read n = Config.ckfn (m.bytes n) := by
    rw [Memory.read_withChecksum h, hoff, if_pos rfl]
  rw [hn, Nat.add_sub_cancel, sealed, ← hck, ← hbody]
  simp [Memory.bytes, List.range_succ]

/-- Zero fill: 0x00 below `S − 1`, every other byte as before (R88). -/
theorem State.read_clearedMessage {s : State} (h : s.msg.wf = true) (a : Nat) :
    s.clearedMessage.read a = if a < s.cfg.lay.S - 1 then 0x00 else s.msg.read a :=
  Memory.read_copyIn_zero h _ _ _

/-- The boot-page-write Message of group `g` before its checksum (R85). -/
def State.bootPageFields (s : State) (g : Nat) : Memory :=
  (((s.clearedMessage.write s.cfg.lay.typeOff s.cfg.mtBootpgmPage).write s.cfg.lay.bpAddrOff (s.payload 0)).write
    s.cfg.lay.bpOfsOff (wordOffset g)).copyIn s.cfg.lay.bpDataOff (s.groupByte g) 6

/-- The GPS-fix-fragment Message of fragment `k` before its checksum (R86). -/
def State.gpsFields (s : State) (k : Nat) : Memory :=
  (s.clearedMessage.write s.cfg.lay.typeOff s.cfg.mtGps).copyIn s.cfg.lay.gpsOff (s.fragmentByte k) 7

theorem State.bootPageMessage_eq (s : State) (g : Nat) :
    s.bootPageMessage g = (s.bootPageFields g).withChecksum s.cfg := rfl

theorem State.gpsMessage_eq (s : State) (k : Nat) : s.gpsMessage k = (s.gpsFields k).withChecksum s.cfg := rfl

/-- Byte `j` of group `g`, by its index in the latch (R80). -/
theorem State.groupByte_eq (s : State) (g j : Nat) :
    s.groupByte g j = s.f.read (2 + s.cfg.bpDataBase.val + 6 * g + j) := by
  rw [State.groupByte, State.payload, ← Nat.add_assoc, ← Nat.add_assoc]

/-- Byte `j` of fragment `k`, by its index in the latch (R81). -/
theorem State.fragmentByte_eq (s : State) (k j : Nat) : s.fragmentByte k j = s.f.read (2 + 7 * k + j) := by
  rw [State.fragmentByte, State.payload, ← Nat.add_assoc]

section Fields
variable {s : State} (h : s.msg.wf = true)
include h

theorem State.wf_bootPageFields (g : Nat) : (s.bootPageFields g).wf = true :=
  Memory.wf_copyIn (Memory.wf_write (Memory.wf_write (Memory.wf_write (State.wf_clearedMessage h) _ _) _ _) _ _) _ _ _

theorem State.wf_gpsFields (k : Nat) : (s.gpsFields k).wf = true :=
  Memory.wf_copyIn (Memory.wf_write (State.wf_clearedMessage h) _ _) _ _ _

/-- The bytes of the boot-page fields, the last written first. -/
theorem State.read_bootPageFields (g a : Nat) :
    (s.bootPageFields g).read a =
      if s.cfg.lay.bpDataOff ≤ a ∧ a < s.cfg.lay.bpDataOff + 6 then s.groupByte g (a - s.cfg.lay.bpDataOff)
      else if a = s.cfg.lay.bpOfsOff then wordOffset g
      else if a = s.cfg.lay.bpAddrOff then s.payload 0
      else if a = s.cfg.lay.typeOff then s.cfg.mtBootpgmPage
      else s.clearedMessage.read a := by
  have h₀ := State.wf_clearedMessage h
  have h₁ := Memory.wf_write h₀ s.cfg.lay.typeOff s.cfg.mtBootpgmPage
  have h₂ := Memory.wf_write h₁ s.cfg.lay.bpAddrOff (s.payload 0)
  have h₃ := Memory.wf_write h₂ s.cfg.lay.bpOfsOff (wordOffset g)
  rw [State.bootPageFields, Memory.read_copyIn h₃, Memory.read_write h₂, Memory.read_write h₁, Memory.read_write h₀]

/-- The bytes of the GPS fields, the last written first. -/
theorem State.read_gpsFields (k a : Nat) :
    (s.gpsFields k).read a =
      if s.cfg.lay.gpsOff ≤ a ∧ a < s.cfg.lay.gpsOff + 7 then s.fragmentByte k (a - s.cfg.lay.gpsOff)
      else if a = s.cfg.lay.typeOff then s.cfg.mtGps
      else s.clearedMessage.read a := by
  have h₀ := State.wf_clearedMessage h
  rw [State.gpsFields, Memory.read_copyIn (Memory.wf_write h₀ _ _), Memory.read_write h₀]

variable (hv : s.cfg.valid = true)
include hv

/-- The fields are disjoint (V2), so table R85 may name them in another order. -/
theorem State.bytes_bootPageFields (g : Nat) : (s.bootPageFields g).bytes (s.cfg.lay.S - 1) = bootPageBody s g := by
  obtain ⟨_, _, ⟨htypeAddr, htypeOfs, haddrOfs⟩, htype, haddr, hofs, _⟩ := Config.valid_iff.mp hv
  refine List.map_congr_left fun a ha => ?_
  rw [State.read_bootPageFields h, State.read_clearedMessage h, if_pos (List.mem_range.mp ha), State.groupByte_eq]
  by_cases hdata : s.cfg.lay.bpDataOff ≤ a ∧ a < s.cfg.lay.bpDataOff + 6
  · rw [if_pos hdata, if_neg (by omega), if_neg (by omega), if_neg (by omega), if_pos hdata]
  · simp only [if_neg hdata]
    grind [wordOffset, State.payload]

theorem State.bytes_gpsFields (k : Nat) : (s.gpsFields k).bytes (s.cfg.lay.S - 1) = gpsBody s k := by
  obtain ⟨_, _, _, _, _, _, htype, _⟩ := Config.valid_iff.mp hv
  refine List.map_congr_left fun a ha => ?_
  rw [State.read_gpsFields h, State.read_clearedMessage h, if_pos (List.mem_range.mp ha), State.fragmentByte_eq]
  by_cases hgps : s.cfg.lay.gpsOff ≤ a ∧ a < s.cfg.lay.gpsOff + 7
  · rw [if_pos hgps, if_neg (by omega), if_pos hgps]
  · rw [if_neg hgps, if_neg hgps]

/-- The Message of group `g` is table R85's record, sealed. -/
theorem State.bytes_bootPageMessage (g : Nat) :
    (s.bootPageMessage g).bytes s.cfg.lay.S = sealed (bootPageBody s g) := by
  rw [State.bootPageMessage_eq, Memory.bytes_withChecksum (State.wf_bootPageFields h g) hv,
    State.bytes_bootPageFields h hv]

/-- The Message of fragment `k` is table R86's record, sealed. -/
theorem State.bytes_gpsMessage (k : Nat) : (s.gpsMessage k).bytes s.cfg.lay.S = sealed (gpsBody s k) := by
  rw [State.gpsMessage_eq, Memory.bytes_withChecksum (State.wf_gpsFields h k) hv, State.bytes_gpsFields h hv]

/-- Every field lies below `S` (V2). -/
theorem State.read_bootPageMessage_beyond (g : Nat) {a : Nat} (ha : s.cfg.lay.S ≤ a) :
    (s.bootPageMessage g).read a = s.msg.read a := by
  obtain ⟨_, ⟨hS, htype, haddr, hofs, hdata, _⟩, _⟩ := Config.valid_iff.mp hv
  rw [State.bootPageMessage_eq, Memory.read_withChecksum (State.wf_bootPageFields h g), Config.ckOff,
    State.read_bootPageFields h, State.read_clearedMessage h]
  repeat rw [if_neg (by omega)]

theorem State.read_gpsMessage_beyond (k : Nat) {a : Nat} (ha : s.cfg.lay.S ≤ a) :
    (s.gpsMessage k).read a = s.msg.read a := by
  obtain ⟨_, ⟨hS, htype, _, _, _, hgps⟩, _⟩ := Config.valid_iff.mp hv
  rw [State.gpsMessage_eq, Memory.read_withChecksum (State.wf_gpsFields h k), Config.ckOff,
    State.read_gpsFields h, State.read_clearedMessage h]
  repeat rw [if_neg (by omega)]

end Fields

/-! ## The two suppressed loops -/

/-- A sent and counted record, when the built Message's bytes are known. -/
theorem State.sendRecord_eq (s : State) {m : Memory} {body : List Byte} (hm : m.bytes s.cfg.lay.S = body) :
    (s.setMsg m).send.setCnt (s.cnt + 1) =
      { s with msg := m, cnt := s.cnt + 1, trace := s.trace ++ [.send body] } := by
  subst hm
  rfl

/-- BP_LOOP's exits (R123). -/
theorem State.bpLoop_of_exit {s : State} (h : s.cfg.pageSize ≤ 6 * s.cnt ∨ s.fa = true) :
    s.bpLoop = s.goto .xRelease := by
  obtain ⟨_, he⟩ | ⟨hpage, hfa, _⟩ := s.bpLoop_cases
  · exact he
  · simp [hfa, hpage.not_ge] at h

/-- BP_LOOP's record (R123). -/
theorem State.bpLoop_of_group {s : State} (hpage : 6 * s.cnt < s.cfg.pageSize) (hfa : s.fa = false) :
    s.bpLoop = (s.setMsg (s.bootPageMessage s.cnt)).send.setCnt (s.cnt + 1) := by
  obtain ⟨h, _⟩ | ⟨_, _, he⟩ := s.bpLoop_cases
  · simp [hfa, hpage.not_ge] at h
  · exact he

/-- GPS_LOOP's exits (R126). -/
theorem State.gpsLoop_of_exit {s : State}
    (h : s.cfg.N - 2 < 7 * s.cnt + 7 ∨ s.fa = true ∨ s.f.read (2 + 7 * s.cnt) = 0x00) :
    s.gpsLoop = s.goto .xRelease := by
  obtain ⟨_, he⟩ | ⟨hlen, hfa, hid, _⟩ := s.gpsLoop_cases
  · exact he
  · obtain h | h | h := h
    · omega
    · simp [hfa] at h
    · exact absurd h (s.fragmentByte_eq s.cnt 0 ▸ hid)

/-- GPS_LOOP's record (R126). -/
theorem State.gpsLoop_of_fragment {s : State} (hlen : 7 * s.cnt + 7 ≤ s.cfg.N - 2) (hfa : s.fa = false)
    (hid : s.f.read (2 + 7 * s.cnt) ≠ 0x00) :
    s.gpsLoop = (s.setMsg (s.gpsMessage s.cnt)).send.setCnt (s.cnt + 1) := by
  obtain ⟨h | h | h, _⟩ | ⟨_, _, _, he⟩ := s.gpsLoop_cases
  · omega
  · simp [hfa] at h
  · exact absurd (s.fragmentByte_eq s.cnt 0 ▸ h) hid
  · exact he

/-- Settles O21: the loop leaves or it sends, and the record sent is that of table R85. -/
theorem bootPageLoopSendsOneGroup : Obligations.BootPageLoopSendsOneGroup := by
  unfold Obligations.BootPageLoopSendsOneGroup
  intro s hv hwf hb
  rw [step_of_behaving hv hb nofun, State.behave_bpLoop (s := s.takeTurn) hb.2]
  refine ⟨fun hout => ?exit, fun hpage hfa => ?group⟩
  case exit =>
    rw [State.bpLoop_of_exit (s := s.takeTurn) hout]
    rfl
  case group =>
    have hm := State.bytes_bootPageMessage (s := s.takeTurn) hwf hv s.cnt
    rw [State.bpLoop_of_group (s := s.takeTurn) hpage hfa]
    exact ⟨_, congrArg _ (s.takeTurn.sendRecord_eq hm), State.wf_bootPageMessage hwf s.cnt, hm,
      fun _ ha => State.read_bootPageMessage_beyond (s := s.takeTurn) hwf hv s.cnt ha⟩

/-- Settles O22: the loop leaves or it sends, and the record sent is that of table R86. -/
theorem gpsLoopSendsOneFragment : Obligations.GpsLoopSendsOneFragment := by
  unfold Obligations.GpsLoopSendsOneFragment
  intro s hv hwf hb
  rw [step_of_behaving hv hb nofun, State.behave_gpsLoop (s := s.takeTurn) hb.2]
  refine ⟨fun hout => ?exit, fun hlen hfa hid => ?fragment⟩
  case exit =>
    rw [State.gpsLoop_of_exit (s := s.takeTurn) hout]
    rfl
  case fragment =>
    have hm := State.bytes_gpsMessage (s := s.takeTurn) hwf hv s.cnt
    rw [State.gpsLoop_of_fragment (s := s.takeTurn) hlen hfa hid]
    exact ⟨_, congrArg _ (s.takeTurn.sendRecord_eq hm), State.wf_gpsMessage hwf s.cnt, hm,
      fun _ ha => State.read_gpsMessage_beyond (s := s.takeTurn) hwf hv s.cnt ha⟩

end Sys2Proof.Machine

/-!
PROOFS. What a step of the Dispatcher can do, said once (42_dispatcher.md R109, R111), and the statements about every
step that follow from it: the trace, the transition graph, the Message buffer and line 1 (R137, R139).
-/

namespace Sys2Proof.Machine

/-! ## The DECODE step as one equation -/

/-- The state in which the behaviour of a type continues (R111). -/
def decodeTarget (ty : Byte) : DState :=
  if ty = 0x01 then .tgl else if ty = 0x02 ∨ ty = 0x03 then .rmTop
  else if ty = 0x04 then .bpEnter else if ty = 0x05 then .gpsEnter else .idle

/-- The Message buffer after the DECODE of a type: types 2 and 3 build a record, the others leave it (R115, R116). -/
def State.decodeMsg (ty : Byte) (s : State) : Memory :=
  if ty = 0x02 then s.relayMessage else if ty = 0x03 then s.rawMessage else s.msg

/-- DECODE is TAKE, the type's record and the type's transition. -/
theorem decode_eq (ty : Byte) (s : State) :
    effect (instrOfType ty) s = (s.take.setMsg (s.decodeMsg ty)).goto (decodeTarget ty) := by
  obtain ⟨rfl, he⟩ | ⟨rfl, he⟩ | ⟨rfl, he⟩ | ⟨rfl, he⟩ | ⟨rfl, he⟩ | ⟨hty, he⟩ := decode_arms ty s
  case inr.inr.inr.inr.inr =>
    have htarget : decodeTarget ty = .idle := by
      rw [decodeTarget, if_neg (by bv_omega), if_neg (by bv_omega), if_neg (by bv_omega), if_neg (by bv_omega)]
    have hmsg : s.decodeMsg ty = s.msg := by rw [State.decodeMsg, if_neg (by bv_omega), if_neg (by bv_omega)]
    rw [he, htarget, hmsg]
    rfl
  all_goals
    rw [he]
    rfl

/-! ## The behaviour steps by shape -/

/-- The shapes of a behaviour step from `s`: what it emits and writes, where it goes, and which Dispatcher states of the
transition graph and of the pulses it joins. -/
inductive State.BehavesTo (s : State) : State → Prop
  /-- IDLE waits (R110). -/
  | wait (hd : s.dstate = .idle) : BehavesTo s s
  /-- A loop test that only moves on (R117, R123, R126). -/
  | move (d : DState) (hgo : s.dstate.mayGo d = true) (hs : s.dstate.pulsing = false) (hd : d.pulsing = false) :
      BehavesTo s (s.goto d)
  /-- TGL (R114). -/
  | toggle (hd : s.dstate = .tgl) : BehavesTo s s.tgl
  /-- A step that drives line 1 and is inside a pulse afterwards exactly if it drove the line on (R118, R120, R128,
  R129). -/
  | pulse (d : DState) (hgo : s.dstate.mayGo d = true) : BehavesTo s ((s.emit (.ind .indTx d.pulsing)).goto d)
  /-- RM_SEND (R119). -/
  | relay (hd : s.dstate = .rmSend) : BehavesTo s (s.send.goto .rmOff)
  /-- An ENTER step (R122, R125). -/
  | enter (d : DState) (hgo : s.dstate.mayGo d = true) (hs : s.dstate.pulsing = false) :
      BehavesTo s ((s.setSuppress.setCnt 0).goto d)
  /-- A record built, sent and counted (R123, R126). -/
  | record (m : Memory) (hd : s.dstate = .bpLoop ∨ s.dstate = .gpsLoop) :
      BehavesTo s ((s.setMsg m).send.setCnt (s.cnt + 1))
  /-- X_RELEASE (R127). -/
  | release (hd : s.dstate = .xRelease) : BehavesTo s s.xRelease

/-- Every behaviour step has one of these shapes. -/
theorem State.behavesTo_behave (s : State) : s.BehavesTo s.behave := by
  cases hd : s.dstate with
  | idle =>
    rw [State.behave_idle hd]
    exact .wait hd
  | tgl => exact State.behave_tgl hd ▸ .toggle hd
  | rmTop =>
    rw [State.behave_rmTop hd]
    obtain ⟨_, he⟩ | ⟨_, he⟩ := s.rmTop_cases
    all_goals exact he ▸ .move _ (by rw [hd]; rfl) (by rw [hd]; rfl) rfl
  | rmOn => exact State.behave_rmOn hd ▸ .pulse .rmSend (by rw [hd]; rfl)
  | rmSend => exact State.behave_rmSend hd ▸ .relay hd
  | rmOff => exact State.behave_rmOff hd ▸ .pulse .rmTop (by rw [hd]; rfl)
  | bpEnter => exact State.behave_bpEnter hd ▸ .enter .bpLoop (by rw [hd]; rfl) (by rw [hd]; rfl)
  | bpLoop =>
    rw [State.behave_bpLoop hd]
    obtain ⟨_, he⟩ | ⟨_, _, he⟩ := s.bpLoop_cases
    · exact he ▸ .move _ (by rw [hd]; rfl) (by rw [hd]; rfl) rfl
    · exact he ▸ .record _ (.inl hd)
  | gpsEnter => exact State.behave_gpsEnter hd ▸ .enter .gpsLoop (by rw [hd]; rfl) (by rw [hd]; rfl)
  | gpsLoop =>
    rw [State.behave_gpsLoop hd]
    obtain ⟨_, he⟩ | ⟨_, _, _, he⟩ := s.gpsLoop_cases
    · exact he ▸ .move _ (by rw [hd]; rfl) (by rw [hd]; rfl) rfl
    · exact he ▸ .record _ (.inr hd)
  | xRelease => exact State.behave_xRelease hd ▸ .release hd
  | xPulseOn => exact State.behave_xPulseOn hd ▸ .pulse .xPulseOff (by rw [hd]; rfl)
  | xPulseOff => exact State.behave_xPulseOff hd ▸ .pulse .idle (by rw [hd]; rfl)

/-! ## The output trace (R19, R62) -/

/-- From `s` to `t` the events `es` were appended; configuration and schedule are the same. -/
def State.Emits (s : State) (es : List Event) (t : State) : Prop :=
  t.cfg = s.cfg ∧ t.sched = s.sched ∧ t.trace = s.trace ++ es

theorem State.xRelease_emits (s : State) : s.Emits [] s.xRelease := by
  obtain ⟨hcfg, _, _, _, _, _, _, hsched, htrace⟩ := s.feedAll_frame s.hold
  rw [State.xRelease_eq]
  exact ⟨hcfg, hsched, by simpa using htrace⟩

theorem State.arrive_emits (s : State) (b : Byte) : s.Emits [] (s.arrive b) := by
  obtain ⟨he, _⟩ := s.arrive_frame b
  exact ⟨(congrArg State.cfg he :), (congrArg State.sched he :), by simpa using congrArg State.trace he⟩

theorem State.decode_emits (s : State) (ty : Byte) : s.Emits [] (effect (instrOfType ty) s) := by
  rw [decode_eq]
  exact ⟨rfl, rfl, (List.append_nil _).symm⟩

theorem State.BehavesTo.emits {s t : State} (h : s.BehavesTo t) : ∃ es, s.Emits es t ∧ es.length ≤ 1 := by
  cases h with
  | wait | move | enter => exact ⟨[], ⟨rfl, rfl, (List.append_nil _).symm⟩, Nat.zero_le 1⟩
  | toggle | pulse | relay | record => exact ⟨[_], ⟨rfl, rfl, rfl⟩, le_rfl⟩
  | release => exact ⟨[], s.xRelease_emits, Nat.zero_le 1⟩

/-- Settles O29: arrivals, RESET and DECODE emit nothing, a behaviour step at most one event. -/
theorem everyStepEmitsAtMostOneEvent : Obligations.EveryStepEmitsAtMostOneEvent := by
  unfold Obligations.EveryStepEmitsAtMostOneEvent
  intro s t h
  obtain ⟨es, ⟨hcfg, hsched, htrace⟩, hlen, hown⟩ :
      ∃ es, s.takeTurn.Emits es t ∧ es.length ≤ 1 ∧ (s.dispatcherTurn = false → es = []) := by
    obtain ⟨_, ⟨b, _, _, rfl⟩ | ⟨_, _, rfl⟩ | ⟨_, _, rfl⟩ | ⟨hturn, _, rfl⟩⟩ := step_cases h
    · exact ⟨[], s.takeTurn.arrive_emits b, Nat.zero_le 1, fun _ => rfl⟩
    · exact ⟨[], ⟨rfl, rfl, (List.append_nil _).symm⟩, Nat.zero_le 1, fun _ => rfl⟩
    · exact ⟨[], s.takeTurn.decode_emits s.ftype, Nat.zero_le 1, fun _ => rfl⟩
    · obtain ⟨es, hes, hlen⟩ := s.takeTurn.behavesTo_behave.emits
      exact ⟨es, hes, hlen, fun hno => by simp [hturn] at hno⟩
  exact ⟨hcfg, hsched, es, htrace, hlen, hown⟩

/-! ## The transition graph (R109) -/

theorem mayGo_decodeTarget (ty : Byte) : DState.idle.mayGo (decodeTarget ty) = true := by
  unfold decodeTarget
  split_ifs
  all_goals rfl

theorem State.BehavesTo.mayGo {s t : State} (h : s.BehavesTo t) : s.dstate.mayGo t.dstate = true := by
  cases h with
  | wait hd => rw [hd]; rfl
  | move d hgo | pulse d hgo | enter d hgo => exact hgo
  | toggle hd | relay hd | release hd => rw [hd]; rfl
  | record m hd =>
    obtain hd | hd := hd
    all_goals
      rw [State.setCnt_dstate, State.send_dstate, State.setMsg_dstate, hd]
      rfl

/-- Settles O30: DECODE goes from IDLE to the type's state, a behaviour step along an edge of the graph. -/
theorem dispatcherFollowsTheTransitionGraph : Obligations.DispatcherFollowsTheTransitionGraph := by
  unfold Obligations.DispatcherFollowsTheTransitionGraph
  intro s t h hturn
  obtain ⟨he, rfl⟩ | ⟨he, rfl⟩ := step_of_dispatcherTurn h hturn
  · obtain ⟨hidle, _⟩ := State.decodeEnabled_iff.mp he
    rw [decode_eq, hidle]
    exact ⟨mayGo_decodeTarget s.ftype, fun _ _ => ⟨rfl, rfl⟩⟩
  · refine ⟨s.takeTurn.behavesTo_behave.mayGo, fun hidle hfa => ?_⟩
    simp [State.decodeEnabled_iff.mpr ⟨hidle, hfa⟩] at he

/-! ## The latch under suppression (R44) -/

/-- Settles O33: a masked step other than X_RELEASE publishes nothing, and only DECODE, in IDLE, clears `FA`. -/
theorem latchIsStableUnderSuppression : Obligations.LatchIsStableUnderSuppression := by
  unfold Obligations.LatchIsStableUnderSuppression
  intro s t hinv hsup h hr hx
  have hquiet : ¬ s.LatchWritten t := fun hw => by
    obtain ⟨_, ⟨_, _, _, hoff, _⟩ | ⟨hrelease, _⟩⟩ := step_latchWritten h hr hw
    · simp [hsup] at hoff
    · exact hx hrelease
  obtain ⟨hf, htype, hset⟩ := State.not_latchWritten_iff.mp hquiet
  have hbusy : ¬ s.behaving .idle := fun ⟨_, hidle⟩ => by simp [hinv.supp_iff, hidle, DState.suppressed] at hsup
  have hkeep (hfa : s.fa = true) : t.fa = true :=
    eq_true_of_ne_false fun hclear => hbusy (step_clears_fa h hr hfa hclear)
  exact ⟨hf, htype, Bool.eq_iff_iff.mpr ⟨hset, hkeep⟩⟩

/-! ## The Message buffer (R137) -/

theorem State.BehavesTo.msg {s t : State} (h : s.BehavesTo t) (hm : t.msg ≠ s.msg) :
    s.dstate = .bpLoop ∨ s.dstate = .gpsLoop := by
  cases h with
  | record m hd => exact hd
  | wait | move | toggle | pulse | relay | enter => exact absurd rfl hm
  | release =>
    obtain ⟨_, _, hmsg, _⟩ := s.feedAll_frame s.hold
    exact absurd (State.xRelease_eq s ▸ hmsg) hm

theorem State.decodeMsg_ne {ty : Byte} {s : State} (h : s.decodeMsg ty ≠ s.msg) : ty = 0x02 ∨ ty = 0x03 := by
  by_contra hno
  obtain ⟨h2, h3⟩ := not_or.mp hno
  exact h (by rw [State.decodeMsg, if_neg h2, if_neg h3])

/-- Settles O36: an arrival leaves MSG alone, DECODE builds it for types 2 and 3, a behaviour step in the two loops. -/
theorem messageBufferChangesOnlyWhereItIsBuilt : Obligations.MessageBufferChangesOnlyWhereItIsBuilt := by
  unfold Obligations.MessageBufferChangesOnlyWhereItIsBuilt
  intro s t h hm
  obtain ⟨_, ⟨b, _, _, rfl⟩ | ⟨rest, hs, _⟩ | ⟨hturn, he, rfl⟩ | ⟨hturn, _, rfl⟩⟩ := step_cases h
  · obtain ⟨he, _⟩ := s.takeTurn.arrive_frame b
    exact absurd (congrArg State.msg he :) hm
  · exact .inr (.inr (.inr ⟨rest, hs⟩))
  · obtain ⟨hidle, hfa⟩ := State.decodeEnabled_iff.mp he
    rw [decode_eq] at hm
    exact .inl ⟨⟨hturn, hidle⟩, hfa, State.decodeMsg_ne (s := s.takeTurn) hm⟩
  · obtain hd | hd := s.takeTurn.behavesTo_behave.msg hm
    · exact .inr (.inl ⟨hturn, hd⟩)
    · exact .inr (.inr (.inl ⟨hturn, hd⟩))

/-! ## Line 1 (R139) -/

/-- The last of the appended events that drives the line says its level. -/
theorem txLevel_append (es es' : List Event) : txLevel (es ++ es') = (txLevel es').or (txLevel es) := by
  induction es with
  | nil => simp [txLevel]
  | cons e es ih =>
    simp only [List.cons_append, txLevel, ih]
    cases txLevel es' <;> rfl

/-- Outside a pulse, a step that leaves the line's level alone keeps the consistency of the line. -/
theorem State.indicatorConsistent.of_level {s t : State} (h : s.indicatorConsistent) (hs : s.dstate.pulsing = false)
    (hlevel : txLevel t.trace = txLevel s.trace) : t.indicatorConsistent :=
  fun _ => hlevel ▸ h hs

theorem State.BehavesTo.indicatorConsistent {s t : State} (h : s.BehavesTo t) (hc : s.indicatorConsistent) :
    t.indicatorConsistent := by
  cases h with
  | wait => exact hc
  | move _ _ hs | enter _ _ hs => exact hc.of_level hs rfl
  | toggle hd => exact hc.of_level (by rw [hd]; rfl) (txLevel_append _ _)
  | pulse d =>
    intro hoff
    rw [State.goto_trace, State.emit_trace, txLevel_append, show d.pulsing = false from hoff]
    exact nofun
  | relay => exact nofun
  | record m hd =>
    obtain hd | hd := hd
    all_goals exact hc.of_level (by rw [hd]; rfl) (txLevel_append _ _)
  | release hd =>
    obtain ⟨_, _, htrace⟩ := s.xRelease_emits
    exact hc.of_level (by rw [hd]; rfl) (by rw [htrace, List.append_nil])

/-- Settles O37: arrivals and DECODE drive no line, and DECODE starts outside the pulses. -/
theorem transmitLineIsOnOnlyInsideAPulse : Obligations.TransmitLineIsOnOnlyInsideAPulse := by
  unfold Obligations.TransmitLineIsOnOnlyInsideAPulse
  intro s t hc h hr
  obtain ⟨_, ⟨b, _, _, rfl⟩ | ⟨rest, hs, _⟩ | ⟨_, he, rfl⟩ | ⟨_, _, rfl⟩⟩ := step_cases h
  · obtain ⟨he, _⟩ := s.takeTurn.arrive_frame b
    rw [he]
    exact hc
  · exact absurd hs (hr rest)
  · obtain ⟨hidle, _⟩ := State.decodeEnabled_iff.mp he
    rw [decode_eq]
    exact hc.of_level (by rw [hidle]; rfl) rfl
  · exact s.takeTurn.behavesTo_behave.indicatorConsistent hc

end Sys2Proof.Machine

/-!
PROOFS. The Dispatcher reads no latch byte that its step has no use for (20_memory.md R50; 30_encoding.md R78 to R81;
entry I19): replacing the latch by one that reads the same where it is read changes nothing else.
-/

namespace Sys2Proof.Machine

theorem Memory.copyIn_congr {m : Memory} {base n : Nat} {g g' : Nat → Byte} (h : ∀ k, k < n → g k = g' k) :
    m.copyIn base g n = m.copyIn base g' n := by
  induction n with
  | zero => rfl
  | succ n ih => rw [Memory.copyIn, Memory.copyIn, ih fun k hk => h k (by omega), h n (by omega)]

/-- The state with another latch. -/
def State.withLatch (f' : Memory) (s : State) : State := { s with f := f' }

section Latch
variable {s : State} {f' : Memory}

/-! ## The records read the payload bytes they copy -/

theorem State.relayMessage_withLatch (h : ∀ k, k < s.cfg.lay.S - 1 → f'.read (2 + k) = s.f.read (2 + k)) :
    (s.withLatch f').relayMessage = s.relayMessage :=
  congrArg (Memory.withChecksum s.cfg) (Memory.copyIn_congr h)

theorem State.rawMessage_withLatch (h : ∀ k, k < s.cfg.lay.S → f'.read (2 + k) = s.f.read (2 + k)) :
    (s.withLatch f').rawMessage = s.rawMessage :=
  Memory.copyIn_congr h

theorem State.bootPageMessage_withLatch {g : Nat} (haddr : f'.read 2 = s.f.read 2)
    (hdata : ∀ j, j < 6 → (s.withLatch f').groupByte g j = s.groupByte g j) :
    (s.withLatch f').bootPageMessage g = s.bootPageMessage g := by
  have hpayload : (s.withLatch f').payload 0 = s.payload 0 := haddr
  rw [State.bootPageMessage, hpayload, Memory.copyIn_congr hdata]
  rfl

theorem State.gpsMessage_withLatch {k : Nat}
    (hdata : ∀ j, j < 7 → (s.withLatch f').fragmentByte k j = s.fragmentByte k j) :
    (s.withLatch f').gpsMessage k = s.gpsMessage k := by
  rw [State.gpsMessage, Memory.copyIn_congr hdata]
  rfl

theorem effect_relayMsg_withLatch (h : ∀ k, k < s.cfg.lay.S - 1 → f'.read (2 + k) = s.f.read (2 + k)) :
    effect .relayMsg (s.withLatch f') = (effect .relayMsg s).withLatch f' := by
  rw [effect, State.relayMessage_withLatch h]
  rfl

theorem effect_relayRaw_withLatch (h : ∀ k, k < s.cfg.lay.S → f'.read (2 + k) = s.f.read (2 + k)) :
    effect .relayRaw (s.withLatch f') = (effect .relayRaw s).withLatch f' := by
  rw [effect, State.rawMessage_withLatch h]
  rfl

/-! ## No step of the Dispatcher reads past the frame -/

variable (hv : s.cfg.valid = true) (hf : ∀ i, i < s.cfg.N → f'.read i = s.f.read i)
include hv hf

/-- V1: the `S` payload bytes lie inside the frame. -/
theorem State.decodeMsg_withLatch (ty : Byte) : (s.withLatch f').decodeMsg ty = s.decodeMsg ty := by
  obtain ⟨hS, _⟩ := Config.valid_iff.mp hv
  rw [State.decodeMsg, State.relayMessage_withLatch fun k hk => hf _ (by omega),
    State.rawMessage_withLatch fun k hk => hf _ (by omega)]
  rfl

/-- V3: the page address and the groups below `NG` lie inside the frame. -/
theorem State.bpLoop_withLatch : (s.withLatch f').bpLoop = s.bpLoop.withLatch f' := by
  have hcnt : (s.withLatch f').cnt = s.cnt := rfl
  have hN := Config.four_le_N hv
  obtain ⟨_, _, _, _, _, _, _, hpl, _⟩ := Config.valid_iff.mp hv
  rw [Config.NG] at hpl
  obtain ⟨hout, he⟩ | ⟨hpage, hfa, he⟩ := s.bpLoop_cases
  · rw [he, State.bpLoop_of_exit (s := s.withLatch f') hout]
    rfl
  · rw [he, State.bpLoop_of_group (s := s.withLatch f') hpage hfa]
    have hm : (s.withLatch f').bootPageMessage s.cnt = s.bootPageMessage s.cnt :=
      State.bootPageMessage_withLatch (hf 2 (by omega)) fun j hj => by
        rw [State.groupByte_eq, State.groupByte_eq]
        exact hf (2 + s.cfg.bpDataBase.val + 6 * s.cnt + j) (by omega)
    rw [hcnt, hm]
    rfl

/-- The payload bound is tested first, so no `id` past the frame is read (R126). -/
theorem State.gpsLoop_withLatch : (s.withLatch f').gpsLoop = s.gpsLoop.withLatch f' := by
  have hcnt : (s.withLatch f').cnt = s.cnt := rfl
  have hN := Config.four_le_N hv
  by_cases hlen : 7 * s.cnt + 7 ≤ s.cfg.N - 2
  · have hid : f'.read (2 + 7 * s.cnt) = s.f.read (2 + 7 * s.cnt) := hf _ (by omega)
    by_cases hout : s.fa = true ∨ s.f.read (2 + 7 * s.cnt) = 0x00
    · rw [State.gpsLoop_of_exit (.inr hout), State.gpsLoop_of_exit (s := s.withLatch f') (.inr (hid ▸ hout))]
      rfl
    · obtain ⟨hfa, hne⟩ := not_or.mp hout
      have hfa : s.fa = false := Bool.eq_false_of_not_eq_true hfa
      rw [State.gpsLoop_of_fragment hlen hfa hne, State.gpsLoop_of_fragment (s := s.withLatch f') hlen hfa (hid ▸ hne)]
      have hm : (s.withLatch f').gpsMessage s.cnt = s.gpsMessage s.cnt :=
        State.gpsMessage_withLatch fun j hj => by
          rw [State.fragmentByte_eq, State.fragmentByte_eq]
          exact hf _ (by omega)
      rw [hcnt, hm]
      rfl
  · have hout : s.cfg.N - 2 < 7 * s.cnt + 7 := by omega
    rw [State.gpsLoop_of_exit (.inl hout), State.gpsLoop_of_exit (s := s.withLatch f') (.inl hout)]
    rfl

theorem State.behave_withLatch (hx : s.dstate ≠ .xRelease) : (s.withLatch f').behave = s.behave.withLatch f' := by
  have hsame : (s.withLatch f').dstate = s.dstate := rfl
  cases hd : s.dstate with
  | xRelease => exact absurd hd hx
  | bpLoop => rw [State.behave_bpLoop hd, State.behave_bpLoop (hsame.trans hd), State.bpLoop_withLatch hv hf]
  | gpsLoop => rw [State.behave_gpsLoop hd, State.behave_gpsLoop (hsame.trans hd), State.gpsLoop_withLatch hv hf]
  | rmTop =>
    rw [State.behave_rmTop hd, State.behave_rmTop (hsame.trans hd), State.rmTop_eq, State.rmTop_eq]
    rfl
  | idle => rw [State.behave_idle hd, State.behave_idle (hsame.trans hd)]
  | tgl | rmOn | rmSend | rmOff | bpEnter | gpsEnter | xPulseOn | xPulseOff =>
    rw [State.behave, State.behave, hsame, hd]
    rfl

end Latch

/-- What the Dispatcher does on its turn: DECODE under its guard, else the behaviour step (R109, R111). -/
def State.dispatch (s : State) : State := if s.decodeEnabled then effect (instrOfType s.ftype) s else s.behave

theorem step_eq_dispatch {s : State} (hturn : s.dispatcherTurn = true) :
    step s = s.takeTurn.complete s.takeTurn.dispatch := by
  have hsame : s.takeTurn.decodeEnabled = s.decodeEnabled := rfl
  rw [State.dispatch, hsame]
  by_cases he : s.decodeEnabled = true
  · rw [if_pos he, step_of_decodeEnabled hturn he, exec_eq_complete, State.takeTurn_ftype]
  · rw [if_neg he, step_eq_behaviourStep (by rw [State.fetch_of_dispatcherTurn hturn, if_neg he])]
    rfl

theorem State.dispatch_withLatch {s : State} {f' : Memory} (hv : s.cfg.valid = true)
    (hf : ∀ i, i < s.cfg.N → f'.read i = s.f.read i) (hx : s.dstate ≠ .xRelease) :
    (s.withLatch f').dispatch = s.dispatch.withLatch f' := by
  have hsame : (s.withLatch f').decodeEnabled = s.decodeEnabled := rfl
  rw [State.dispatch, State.dispatch, hsame]
  split_ifs
  · rw [decode_eq, decode_eq, State.decodeMsg_withLatch hv hf]
    rfl
  · exact State.behave_withLatch hv hf hx

/-- Settles O38: whose turn it is does not depend on the latch, and neither DECODE nor a behaviour step reads past the
frame. -/
theorem noDispatcherStepReadsPastTheFrame : Obligations.NoDispatcherStepReadsPastTheFrame := by
  unfold Obligations.NoDispatcherStepReadsPastTheFrame
  intro s t f' hturn hx hf h
  rw [step_eq_dispatch hturn] at h
  obtain ⟨hv, rfl⟩ := State.complete_eq_next.mp h
  have hturn' : (s.withLatch f').dispatcherTurn = true := hturn
  have hd := State.dispatch_withLatch (s := s.takeTurn) hv hf hx
  exact (step_eq_dispatch hturn').trans (State.complete_eq_next.mpr ⟨hv, hd⟩)

/-- Settles O39: each record copies the payload bytes named, and nothing else of the two steps reads the latch. -/
theorem unreadPayloadNeverReachesTheMessage : Obligations.UnreadPayloadNeverReachesTheMessage := by
  unfold Obligations.UnreadPayloadNeverReachesTheMessage
  intro s f' hv
  have hv' : (s.withLatch f').cfg.valid = true := hv
  exact ⟨fun h => ⟨_, exec_of_valid hv _, (exec_of_valid hv' _).trans (congrArg _ (effect_relayMsg_withLatch h))⟩,
    fun h => ⟨_, exec_of_valid hv _, (exec_of_valid hv' _).trans (congrArg _ (effect_relayRaw_withLatch h))⟩⟩

end Sys2Proof.Machine

/-!
PROOFS. Sequences of arrivals (40_detector.md R97 to R101; 41_frame_store.md R105; 70_reset_and_hazards.md R172): what
the window holds after `n ≤ N` FEEDs, and what they detect.
-/

namespace Sys2Proof.Machine

/-! ## The window after some FEEDs -/

theorem State.feedAll_append (s : State) (bs bs' : List Byte) : s.feedAll (bs ++ bs') = (s.feedAll bs).feedAll bs' :=
  List.foldl_append

@[simp] theorem State.feedAll_cfg (s : State) (bs : List Byte) : (s.feedAll bs).cfg = s.cfg := by
  obtain ⟨hcfg, _⟩ := s.feedAll_frame bs
  exact hcfg

theorem State.feedAll_suppress (s : State) (bs : List Byte) : (s.feedAll bs).suppress = s.suppress := by
  obtain ⟨_, _, _, _, _, hsuppress, _⟩ := s.feedAll_frame bs
  exact hsuppress

theorem State.wf_feedAll {s : State} (h : s.w.wf = true) (bs : List Byte) : (s.feedAll bs).w.wf = true :=
  State.feedAll_induct (P := fun u => u.w.wf = true) (fun u b hu => u.feed_w b ▸ Memory.wf_write hu _ _) bs h

theorem State.Inv.feedAll {s : State} (h : s.Inv) (bs : List Byte) : (s.feedAll bs).Inv :=
  State.feedAll_induct (fun _ b hu => hu.feed b) bs h

/-- The cursor moves on by one per FEED, modulo `N` (R97). -/
theorem State.feedAll_head {s : State} (h : s.head < s.cfg.N) (bs : List Byte) :
    (s.feedAll bs).head = (s.head + bs.length) % s.cfg.N := by
  induction bs using List.reverseRecOn with
  | nil => exact (Nat.mod_eq_of_lt h).symm
  | append_singleton bs b ih =>
    rw [State.feedAll_append, State.feedAll_cons, State.feedAll_nil, State.feed_head, ih, State.feedAll_cfg,
      List.length_append, List.length_singleton, Nat.mod_add_mod, Nat.add_assoc]

/-- Within one round the window's indices, counted from the cursor, are distinct. -/
theorem add_mod_eq_iff {h i j n : Nat} (hi : i < n) (hj : j < n) : (h + i) % n = (h + j) % n ↔ i = j :=
  ⟨fun he => (Nat.ModEq.add_left_cancel' h he).eq_of_lt_of_lt hi hj, fun he => he ▸ rfl⟩

/-- Up to `N` FEEDs write their bytes from the cursor on, and leave the rest of the window (R91, R97). -/
theorem State.read_feedAll_w {s : State} (hw : s.w.wf = true) (hh : s.head < s.cfg.N) {bs : List Byte}
    (hlen : bs.length ≤ s.cfg.N) {i : Nat} (hi : i < s.cfg.N) :
    (s.feedAll bs).w.read ((s.head + i) % s.cfg.N) = bs.getD i (s.w.read ((s.head + i) % s.cfg.N)) := by
  induction bs using List.reverseRecOn with
  | nil => rfl
  | append_singleton bs b ih =>
    rw [List.length_append, List.length_singleton] at hlen
    have hat : (s.feedAll (bs ++ [b])).w = (s.feedAll bs).w.write ((s.head + bs.length) % s.cfg.N) b := by
      rw [State.feedAll_append, State.feedAll_cons, State.feedAll_nil, State.feed_w, State.feedAll_head hh,
        State.feedAll_cfg, Nat.mod_mod]
    rw [hat, Memory.read_write (State.wf_feedAll hw bs), ih (by omega), if_congr (add_mod_eq_iff hi (by omega)) rfl rfl]
    obtain hlt | rfl | hgt := Nat.lt_trichotomy i bs.length
    · rw [if_neg hlt.ne, List.getD_append _ _ _ _ hlt]
    · simp
    · rw [if_neg hgt.ne', List.getD_eq_default _ _ hgt.le, List.getD_eq_default _ _ (by simpa using hgt)]

/-- Settles O40: `N` FEEDs are one round, so no byte of the window is left. -/
theorem nFeedsReplaceTheWholeWindow : Obligations.NFeedsReplaceTheWholeWindow := by
  unfold Obligations.NFeedsReplaceTheWholeWindow
  intro s bs hv hs hw hh hlen
  refine ⟨s.feedAll bs, execAll_feed bs hv hs, ?cursor, fun i hi => ?window⟩
  case cursor => rw [State.feedAll_head hh, hlen, Nat.add_mod_right, Nat.mod_eq_of_lt hh]
  case window =>
    rw [State.read_feedAll_w hw hh hlen.le (hlen ▸ hi), List.getD_eq_getElem _ _ hi]

/-! ## Detection (R98, R99, R101) -/

/-- While the window's oldest byte is still one from before the FEEDs, an all-zero window detects nothing. -/
theorem State.feedAll_not_synchronized {s : State} (hw : s.w = []) (hh : s.head = 0) {bs : List Byte}
    (hlen : bs.length < s.cfg.N) : ¬ (s.feedAll bs).synchronized = true := by
  have hlt : s.head < s.cfg.N := by omega
  have hold := State.read_feedAll_w (s := s) (hw ▸ rfl) hlt hlen.le hlen
  rw [← State.feedAll_head hlt, List.getD_eq_default _ _ le_rfl, hw] at hold
  rw [State.synchronized_iff, hold]
  exact fun ⟨hsync, _⟩ => nomatch hsync

/-- Settles O42: each of the FEEDs leaves a window that is not synchronized, so it only shifts. -/
theorem noDetectionBeforeTheNthByte : Obligations.NoDetectionBeforeTheNthByte := by
  unfold Obligations.NoDetectionBeforeTheNthByte
  intro s bs hv hs hw hh hlen
  refine ⟨s.feedAll bs, execAll_feed bs hv hs, ?_⟩
  induction bs using List.reverseRecOn with
  | nil => exact ⟨rfl, rfl, rfl⟩
  | append_singleton bs b ih =>
    have hno := State.feedAll_not_synchronized hw hh hlen
    rw [List.length_append] at hlen
    rw [State.feedAll_append] at hno ⊢
    rw [State.feedAll_cons, State.feedAll_nil, State.feed_of_not_synchronized hno]
    exact ih (by omega)

/-- The XOR of a list, by index. -/
theorem xorRange_getD (g : List Byte) : xorRange (fun i => g.getD i 0x00) g.length = g.foldl (· ^^^ ·) 0x00 := by
  induction g using List.reverseRecOn with
  | nil => rfl
  | append_singleton g b ih =>
    rw [List.length_append, List.length_singleton, xorRange, List.foldl_append, ← ih]
    congr 1
    · exact xorRange_congr fun k hk => by simp [List.getElem?_append_left hk]
    · simp

/-- The last of some FEEDs, when it detects, published the window (R95, R102). -/
theorem State.feedAll_published {s : State} {bs : List Byte} (hs : s.Inv) (hne : bs ≠ [])
    (hsync : (s.feedAll bs).synchronized = true) :
    (s.feedAll bs).fa = true ∧
    ∀ i, i < s.cfg.N → (s.feedAll bs).f.read i = (s.feedAll bs).w.read (((s.feedAll bs).head + i) % s.cfg.N) := by
  obtain ⟨bs, b, rfl⟩ := (List.eq_nil_or_concat' bs).resolve_left hne
  have hlast : s.feedAll (bs ++ [b]) = (s.feedAll bs).feed b := s.feedAll_append bs [b]
  rw [hlast] at hsync ⊢
  refine ⟨by rw [State.feed_of_synchronized hsync, State.publish_fa], fun i hi => ?_⟩
  rw [State.read_feed_f (hs.feedAll bs).f_wf hsync, State.feedAll_cfg, if_pos hi]

/-- R98: the `N` bytes of a frame fill the window, so after the last of them the oldest is the sentinel and, by the
checksum invariant, the checksum is the frame's XOR. -/
theorem State.Inv.detects {s : State} (hs : s.Inv) {g : List Byte} (hg : isFrame s.cfg.N g) :
    (s.feedAll g).f.bytes s.cfg.N = g ∧ g[1]? = some (s.feedAll g).ftype ∧ (s.feedAll g).fa = true := by
  obtain ⟨hlen, hhead, hxor⟩ := hg
  have hN := Config.four_le_N hs.valid
  have ht := hs.feedAll g
  have hcursor : (s.feedAll g).head = s.head := by
    rw [State.feedAll_head hs.head_lt, hlen, Nat.add_mod_right, Nat.mod_eq_of_lt hs.head_lt]
  have hwindow (i : Nat) (hi : i < s.cfg.N) : (s.feedAll g).w.read ((s.head + i) % s.cfg.N) = g.getD i 0x00 := by
    rw [State.read_feedAll_w hs.w_wf hs.head_lt hlen.le hi, List.getD_eq_getElem _ _ (hlen ▸ hi),
      List.getD_eq_getElem _ _ (hlen ▸ hi)]
  have hsentinel : (s.feedAll g).w.read (s.feedAll g).head = sentinel := by
    have h0 := hwindow 0 (by omega)
    rw [Nat.add_zero, Nat.mod_eq_of_lt hs.head_lt] at h0
    rw [hcursor, h0, List.getD_eq_getElem?_getD, ← List.head?_eq_getElem?, hhead]
    rfl
  have hck : (s.feedAll g).ck = 0x00 :=
    calc (s.feedAll g).ck
        = xorRange (s.feedAll g).w.read s.cfg.N := by rw [ht.checksum, State.feedAll_cfg]
      _ = xorRange (fun i => (s.feedAll g).w.read ((s.head + i) % s.cfg.N)) s.cfg.N :=
        (xorRange_rotate _ (by omega) _).symm
      _ = xorRange (fun i => g.getD i 0x00) s.cfg.N := xorRange_congr hwindow
      _ = 0x00 := by rw [← hlen, xorRange_getD, hxor]
  have hne : g ≠ [] := by
    rintro rfl
    cases hhead
  obtain ⟨hfa, hlatch⟩ := State.feedAll_published hs hne (State.synchronized_iff.mpr ⟨hsentinel, hck⟩)
  have hframe (i : Nat) (hi : i < s.cfg.N) : (s.feedAll g).f.read i = g.getD i 0x00 := by
    rw [hlatch i hi, hcursor, hwindow i hi]
  refine ⟨?_, ?_, hfa⟩
  · refine List.ext_getElem (by rw [Memory.length_bytes, hlen]) fun i _ hi => ?_
    rw [Memory.getElem_bytes, hframe i (hlen ▸ hi), List.getD_eq_getElem _ _ hi]
  · have h1 : 1 < g.length := by omega
    rw [ht.type_eq, hframe 1 (by omega), List.getD_eq_getElem _ _ h1, List.getElem?_eq_getElem h1]

/-- Settles O41: the bytes before the frame keep the invariant, and from there the frame is detected. -/
theorem everyWholeFrameIsDetected : Obligations.EveryWholeFrameIsDetected := by
  unfold Obligations.EveryWholeFrameIsDetected
  intro s before g hs hsup hg
  have hd := (hs.feedAll before).detects (g := g) (by rwa [State.feedAll_cfg])
  rw [← State.feedAll_append, State.feedAll_cfg] at hd
  exact ⟨_, execAll_feed _ hs.valid hsup, hd⟩

/-- A frame decodes by its second byte (R72, R75). -/
theorem decode_of_frame {n : Nat} {g : List Byte} {ty : Byte} (hg : isFrame n g) (hty : g[1]? = some ty) :
    decode ⟨.frameHdr16, g⟩ = .ok (instrOfType ty) := by
  obtain ⟨_, hhead, _⟩ := hg
  match g, hhead, hty with
  | _ :: _ :: rest, rfl, rfl => exact decode_sentinel ty rest

/-- With nothing scheduled it is the Dispatcher's turn, and stays so (log 1). -/
theorem State.dispatcherTurn_of_alone {s : State} (h : s.sched = []) : s.dispatcherTurn = true := by
  rw [State.dispatcherTurn, h]

theorem State.takeTurn_of_alone {s : State} (h : s.sched = []) : s.takeTurn = s :=
  State.ext rfl rfl rfl rfl rfl rfl rfl rfl rfl rfl rfl rfl rfl (by rw [State.takeTurn_sched, h]; rfl) rfl

/-- Settles O43: the second frame is the one detected last, its bytes decode to what the step executes, and every DECODE
is a TAKE. -/
theorem onlyTheLatestFrameIsDispatched : Obligations.OnlyTheLatestFrameIsDispatched := by
  unfold Obligations.OnlyTheLatestFrameIsDispatched
  intro s g₁ g₂ hs hsup hidle hsched _ hg₂
  obtain ⟨t, ht, hlatch, htype, hfa⟩ := everyWholeFrameIsDetected s g₁ g₂ hs hsup hg₂
  obtain rfl : s.feedAll (g₁ ++ g₂) = t := Host.Outcome.next.inj ((execAll_feed _ hs.valid hsup).symm.trans ht)
  obtain ⟨hcfg, _, _, _, hdstate, _, _, hturns, _⟩ := s.feedAll_frame (g₁ ++ g₂)
  have halone : (s.feedAll (g₁ ++ g₂)).sched = [] := hturns.trans hsched
  have hexec := exec_of_valid (s := s.feedAll (g₁ ++ g₂)) (hcfg ▸ hs.valid)
  refine ⟨_, _, _, ht, hlatch, decode_of_frame hg₂ htype, ?step, hexec _, ?taken⟩
  case step =>
    rw [step_of_decodeEnabled (State.dispatcherTurn_of_alone halone)
      (State.decodeEnabled_iff.mpr ⟨hdstate.trans hidle, hfa⟩), State.takeTurn_of_alone halone]
  case taken =>
    rw [decode_eq]
    rfl

/-! ## A window of sentinels (R172) -/

theorem xorRange_const (v : Byte) (n : Nat) : xorRange (fun _ => v) n = if n % 2 = 0 then 0x00 else v := by
  induction n with
  | zero => rfl
  | succ n ih =>
    rw [xorRange, ih]
    obtain h | h := Nat.mod_two_eq_zero_or_one n
    · rw [if_pos h, if_neg (by omega)]
      exact BitVec.zero_xor
    · rw [if_neg (by omega), if_pos (by omega)]
      exact BitVec.xor_self

/-- Settles O44: one more sentinel leaves every byte of the window a sentinel, so the checksum is their XOR. -/
theorem allSentinelWindowDetectsWhenNIsEven : Obligations.AllSentinelWindowDetectsWhenNIsEven := by
  unfold Obligations.AllSentinelWindowDetectsWhenNIsEven
  intro s hs hsup hall
  have hN := Config.four_le_N hs.valid
  have ht := hs.feed sentinel
  have hwindow (i : Nat) (hi : i < s.cfg.N) : (s.feed sentinel).w.read i = sentinel := by
    rw [State.feed_w, Memory.read_write hs.w_wf, hall i hi]
    exact ite_self _
  have hck : (s.feed sentinel).ck = if s.cfg.N % 2 = 0 then 0x00 else sentinel := by
    rw [ht.checksum, State.feed_cfg, xorRange_congr hwindow, xorRange_const]
  have hoff : (s.feed sentinel).head < s.cfg.N := s.feed_cfg sentinel ▸ ht.head_lt
  refine ⟨_, exec_feed_of_enabled hs.valid hsup sentinel, fun heven => ?even, fun hodd => ?odd⟩
  case even =>
    have hsync : (s.feed sentinel).synchronized = true :=
      State.synchronized_iff.mpr ⟨hwindow _ hoff, by rw [hck, if_pos heven]⟩
    refine ⟨by rw [State.feed_of_synchronized hsync, State.publish_fa], ?_⟩
    rw [ht.type_eq, State.read_feed_f hs.f_wf hsync, if_pos (by omega)]
    exact hwindow _ (Nat.mod_lt _ (by omega))
  case odd =>
    have hno : ¬ (s.feed sentinel).synchronized = true := by
      rw [State.synchronized_iff, hck, if_neg (by omega)]
      exact fun ⟨_, hzero⟩ => nomatch hzero
    rw [State.feed_of_not_synchronized hno]
    exact ⟨rfl, rfl, rfl⟩

end Sys2Proof.Machine

/-!
PROOFS. Runs of a dispatch that no environment event disturbs (42_dispatcher.md R131 to R138; 70_reset_and_hazards.md
R179): with nothing scheduled every step is the Dispatcher's.
-/

namespace Sys2Proof.Machine

theorem run_cons {s t : State} {k : Nat} {o : Host.Outcome State Fault Refusal} (h : step s = .next t)
    (hr : run k t = o) : run (k + 1) s = o :=
  (run_succ h k).trans hr

/-- With nothing scheduled, a Dispatcher state other than IDLE runs its behaviour step and nothing else. -/
theorem step_of_alone {s : State} {d : DState} (hv : s.cfg.valid = true) (hs : s.sched = []) (hd : s.dstate = d)
    (hne : d ≠ .idle) : step s = .next s.behave := by
  rw [step_of_behaving hv ⟨State.dispatcherTurn_of_alone hs, hd⟩ hne, State.takeTurn_of_alone hs]

/-- Outside the suppressed states arrivals are enabled (R43), so nothing is held (R42). -/
theorem State.Inv.unmasked {s : State} {d : DState} (h : s.Inv) (hd : s.dstate = d) (hns : d.suppressed = false) :
    s.suppress = false ∧ s.hold = [] := by
  have hsup : s.suppress = false := by rw [h.supp_iff, hd, hns]
  refine ⟨hsup, ?_⟩
  by_contra hne
  simp [h.hold_supp hne] at hsup

/-! ## Quiescence (R179) -/

/-- Settles O51: IDLE is not a suppressed state, and every step there is a wait. -/
theorem quiescentStateWaitsForTheEnvironment : Obligations.QuiescentStateWaitsForTheEnvironment := by
  unfold Obligations.QuiescentStateWaitsForTheEnvironment
  intro s k hinv ⟨hidle, hfa⟩
  obtain ⟨hsup, hhold⟩ := hinv.unmasked hidle rfl
  refine ⟨hsup, hhold, fun hs => ?_⟩
  have hwait : step s = .next s := by
    rw [step_of_waiting hinv.valid ⟨State.dispatcherTurn_of_alone hs, hidle⟩ hfa, State.takeTurn_of_alone hs]
  induction k with
  | zero => exact run_zero s
  | succ k ih => exact run_cons hwait ih

/-! ## Toggle (R135) -/

/-- One toggle dispatch, DECODE and TGL. -/
theorem run_toggleDispatch {s : State} (hv : s.cfg.valid = true) (hs : s.sched = []) (hidle : s.dstate = .idle)
    (hfa : s.fa = true) (htype : s.ftype = 0x01) :
    run 2 s = .next { s with fa := false, toggle := !s.toggle,
                             trace := s.trace ++ [.ind .indToggle (!s.toggle)] } := by
  have hdecode : step s = .next (s.take.goto .tgl) := by
    rw [step_of_decodeEnabled (State.dispatcherTurn_of_alone hs) (State.decodeEnabled_iff.mpr ⟨hidle, hfa⟩),
      State.takeTurn_of_alone hs, htype]
    exact exec_of_valid hv .toggle
  refine run_cons hdecode (run_cons (step_of_alone hv hs rfl nofun) ?_)
  rw [State.behave_tgl rfl, run_zero]
  simp [State.ext_iff, State.tgl, hidle]

/-- Settles O50: the second dispatch flips the boolean back. -/
theorem twoToggleDispatchesRestoreTheIndicator : Obligations.TwoToggleDispatchesRestoreTheIndicator := by
  unfold Obligations.TwoToggleDispatchesRestoreTheIndicator
  intro s hv hs hidle hfa htype
  refine ⟨_, run_toggleDispatch hv hs hidle hfa htype, rfl, ?_⟩
  refine (run_toggleDispatch (s := { s with fa := true, toggle := !s.toggle, trace := _ }) hv hs hidle rfl
    htype).trans ?_
  simp

/-! ## The relay loop (R132, R138) -/

section RelayLoop
variable {s : State} (hv : s.cfg.valid = true) (hs : s.sched = [])
include hv hs

/-! From each state of the loop back to RM_TOP, a fresh frame or not (R118 to R120). -/

theorem run_rmOff (hd : s.dstate = .rmOff) :
    run 1 s = .next { s with dstate := .rmTop, trace := s.trace ++ [.ind .indTx false] } := by
  refine run_cons (step_of_alone hv hs hd nofun) ?_
  rw [State.behave_rmOff hd]
  rfl

theorem run_rmSend (hd : s.dstate = .rmSend) :
    run 2 s = .next { s with dstate := .rmTop,
                             trace := s.trace ++ [.send (s.msg.bytes s.cfg.lay.S), .ind .indTx false] } := by
  refine run_cons (step_of_alone hv hs hd nofun) ?_
  rw [State.behave_rmSend hd, List.append_cons]
  exact run_rmOff hv hs rfl

theorem run_rmOn (hd : s.dstate = .rmOn) :
    run 3 s = .next { s with
      dstate := .rmTop,
      trace := s.trace ++ [.ind .indTx true, .send (s.msg.bytes s.cfg.lay.S), .ind .indTx false] } := by
  refine run_cons (step_of_alone hv hs hd nofun) ?_
  rw [State.behave_rmOn hd, List.append_cons]
  exact run_rmSend hv hs rfl

/-- One round of the loop without a fresh frame (R117). -/
theorem run_relayRound (hd : s.dstate = .rmTop) (hfa : s.fa = false) :
    run 4 s = .next { s with
      trace := s.trace ++ [.ind .indTx true, .send (s.msg.bytes s.cfg.lay.S), .ind .indTx false] } := by
  have htop : s.rmTop = s.goto .rmOn := by simp [State.rmTop_eq, hfa]
  refine run_cons (step_of_alone hv hs hd nofun) ?_
  rw [State.behave_rmTop hd, htop]
  refine (run_rmOn (s := s.goto .rmOn) hv hs rfl).trans ?_
  simp [hd]

theorem run_rmTop_of_fresh (hd : s.dstate = .rmTop) (hfa : s.fa = true) :
    run 1 s = .next { s with dstate := .idle } := by
  refine run_cons (step_of_alone hv hs hd nofun) ?_
  rw [State.behave_rmTop hd, State.rmTop_of_fresh hfa]
  rfl

/-- A fresh frame ends the loop as soon as it is back at RM_TOP (R117). -/
theorem run_leaveRelay (hfa : s.fa = true) {j : Nat} {es : List Event}
    (hrun : run j s = .next { s with dstate := .rmTop, trace := s.trace ++ es }) :
    run (j + 1) s = .next { s with dstate := .idle, trace := s.trace ++ es } :=
  (run_add j 1 hrun).trans (run_rmTop_of_fresh hv hs rfl hfa)

end RelayLoop

/-- Settles O48: by induction on the number of rounds. -/
theorem relayLoopRepeatsWithoutAFreshFrame : Obligations.RelayLoopRepeatsWithoutAFreshFrame := by
  unfold Obligations.RelayLoopRepeatsWithoutAFreshFrame
  intro s k hv hs hd hfa
  induction k generalizing s with
  | zero => simp
  | succ k ih =>
    rw [show 4 * (k + 1) = 4 + 4 * k by omega, run_add 4 (4 * k) (run_relayRound hv hs hd hfa), ih]
    case succ => simp [List.replicate_succ]
    all_goals assumption

theorem DState.relaying_iff {d : DState} :
    d.relaying = true ↔ d = .rmTop ∨ d = .rmOff ∨ d = .rmSend ∨ d = .rmOn := by
  cases d <;> decide

/-- Settles O49: RM_TOP is at most three steps and one Send away, and one step from IDLE. -/
theorem freshFrameEndsTheRelayLoopPromptly : Obligations.FreshFrameEndsTheRelayLoopPromptly := by
  unfold Obligations.FreshFrameEndsTheRelayLoopPromptly
  intro s hv hs hrelay hfa
  obtain hd | hd | hd | hd := DState.relaying_iff.mp hrelay
  · refine ⟨1, [], by decide, Nat.zero_le 1, ?_⟩
    rw [List.append_nil]
    exact run_rmTop_of_fresh hv hs hd hfa
  · exact ⟨2, [.ind .indTx false], by decide, Nat.zero_le 1, run_leaveRelay hv hs hfa (run_rmOff hv hs hd)⟩
  · exact ⟨3, _, by decide, le_rfl, run_leaveRelay hv hs hfa (run_rmSend hv hs hd)⟩
  · exact ⟨4, _, le_rfl, le_rfl, run_leaveRelay hv hs hfa (run_rmOn hv hs hd)⟩

/-! ## The two suppressed loops: the way out (R127 to R129) -/

section WayOut
variable {s : State} (hv : s.cfg.valid = true) (hs : s.sched = [])
include hv hs

theorem run_xPulseOff (hd : s.dstate = .xPulseOff) :
    run 1 s = .next { s with dstate := .idle, trace := s.trace ++ [.ind .indTx false] } := by
  refine run_cons (step_of_alone hv hs hd nofun) ?_
  rw [State.behave_xPulseOff hd]
  rfl

theorem run_xPulseOn (hd : s.dstate = .xPulseOn) :
    run 2 s = .next { s with dstate := .idle, trace := s.trace ++ [.ind .indTx true, .ind .indTx false] } := by
  refine run_cons (step_of_alone hv hs hd nofun) ?_
  rw [State.behave_xPulseOn hd, List.append_cons]
  exact run_xPulseOff hv hs rfl

/-- X_RELEASE with nothing held: the mask off and one pulse on line 1. -/
theorem run_xRelease (hhold : s.hold = []) (hd : s.dstate = .xRelease) :
    run 3 s = .next { s with dstate := .idle, suppress := false,
                             trace := s.trace ++ [.ind .indTx true, .ind .indTx false] } := by
  have hrelease : s.xRelease = s.clearSuppress.goto .xPulseOn := by
    rw [State.xRelease_eq, hhold, State.feedAll_nil]
    simp [State.ext_iff, hhold]
  refine run_cons (step_of_alone hv hs hd nofun) ?_
  rw [State.behave_xRelease hd, hrelease]
  exact run_xPulseOn hv hs rfl

end WayOut

/-! ## The two suppressed loops from ENTER to IDLE (R132 to R134) -/

/-- The state inside a suppressed loop, by what the loop writes. -/
def State.inLoop (d : DState) (m : Memory) (n : Nat) (es : List Event) (s : State) : State :=
  { s with dstate := d, suppress := true, msg := m, cnt := n, trace := es }

/-- Every round of the loop below `k` builds, sends and counts the record that `body` gives, whatever the rounds before
it left in MSG and in the trace. -/
def State.SendsEach (s : State) (d : DState) (body : Nat → List Byte) (k : Nat) : Prop :=
  ∀ (n : Nat) (m : Memory) (es : List Event), n < k → m.wf = true →
    ∃ m' : Memory, m'.wf = true ∧
      step (s.inLoop d m n es) = .next (s.inLoop d m' (n + 1) (es ++ [Event.send (body n)]))

/-- Such a loop sends its `k` records in order. -/
theorem run_records {s : State} {d : DState} {m₀ : Memory} {es : List Event} {body : Nat → List Byte} {k : Nat}
    (hwf : m₀.wf = true) (hround : s.SendsEach d body k) :
    ∃ m : Memory, m.wf = true ∧ run k (s.inLoop d m₀ 0 es) =
      .next (s.inLoop d m k (es ++ (List.range k).map fun g => Event.send (body g))) := by
  induction k with
  | zero => exact ⟨m₀, hwf, by simp⟩
  | succ k ih =>
    obtain ⟨m, hm, hrun⟩ := ih fun n m es hn => hround n m es (by omega)
    obtain ⟨m', hm', hstep⟩ := hround k m (es ++ (List.range k).map fun g => Event.send (body g)) (by omega) hm
    refine ⟨m', hm', (run_add k 1 hrun).trans (run_cons hstep ?_)⟩
    simp [List.range_succ]

section SuppressedLoops
variable {s : State} (hv : s.cfg.valid = true) (hs : s.sched = []) (hhold : s.hold = [])
include hv hs hhold

/-- A loop test that leaves, and the way out after it. -/
theorem run_leaveLoop {d : DState} {m : Memory} {n : Nat} {es : List Event} (hne : d ≠ .idle)
    (hexit : (s.inLoop d m n es).behave = (s.inLoop d m n es).goto .xRelease) :
    run 4 (s.inLoop d m n es) = .next { s with
      msg := m, cnt := n, dstate := .idle, suppress := false,
      trace := es ++ [.ind .indTx true, .ind .indTx false] } := by
  refine run_cons (step_of_alone hv hs rfl hne) ?_
  rw [hexit]
  exact run_xRelease hv hs hhold rfl

variable {c d : DState} (hc : s.dstate = c) (hcne : c ≠ .idle) (hdne : d ≠ .idle)
  (henter : s.behave = s.inLoop d s.msg 0 s.trace)
include hc hcne hdne henter

/-- A loop whose first test leaves sends nothing. -/
theorem run_cancelledDispatch
    (hexit : (s.inLoop d s.msg 0 s.trace).behave = (s.inLoop d s.msg 0 s.trace).goto .xRelease) :
    run 5 s = .next { s with
      cnt := 0, dstate := .idle, suppress := false, trace := s.trace ++ [.ind .indTx true, .ind .indTx false] } := by
  refine run_cons (step_of_alone hv hs hc hcne) ?_
  rw [henter]
  exact run_leaveLoop hv hs hhold hdne hexit

/-- A loop that sends `k` records and then leaves takes `k + 5` steps from ENTER to IDLE. -/
theorem run_sendingDispatch {body : Nat → List Byte} {k : Nat} (hwf : s.msg.wf = true) (hround : s.SendsEach d body k)
    (hexit : ∀ (m : Memory) (es : List Event), (s.inLoop d m k es).behave = (s.inLoop d m k es).goto .xRelease) :
    ∃ m : Memory, run (k + 5) s = .next { s with
      msg := m, cnt := k, dstate := .idle, suppress := false,
      trace := s.trace ++ ((List.range k).map fun g => Event.send (body g)) ++ [.ind .indTx true, .ind .indTx false] } := by
  obtain ⟨m, _, hrun⟩ := run_records (s := s) (es := s.trace) hwf hround
  refine ⟨m, run_cons (k := k + 4) (step_of_alone hv hs hc hcne) ?_⟩
  rw [henter, run_add k 4 hrun]
  exact run_leaveLoop hv hs hhold hdne (hexit m _)

end SuppressedLoops

/-- Settles O47: the fresh frame ends the loop at its first test. -/
theorem frameInTheGapCancelsTheDispatch : Obligations.FrameInTheGapCancelsTheDispatch := by
  unfold Obligations.FrameInTheGapCancelsTheDispatch
  intro s hinv hs hd hfa
  obtain hd | hd := hd
  · obtain ⟨hsup, hhold⟩ := hinv.unmasked hd rfl
    rw [run_cancelledDispatch (d := .bpLoop) hinv.valid hs hhold hd nofun nofun (State.behave_bpEnter hd)
      (State.bpLoop_of_fresh (s := s.inLoop _ _ _ _) hfa), hsup]
  · obtain ⟨hsup, hhold⟩ := hinv.unmasked hd rfl
    rw [run_cancelledDispatch (d := .gpsLoop) hinv.valid hs hhold hd nofun nofun (State.behave_gpsEnter hd)
      (State.gpsLoop_of_fresh (s := s.inLoop _ _ _ _) hfa), hsup]

/-- A round of BP_LOOP with nothing scheduled (R123). -/
theorem step_bpLoop_of_group {s : State} (hv : s.cfg.valid = true) (hs : s.sched = []) (hd : s.dstate = .bpLoop)
    (hwf : s.msg.wf = true) (hpage : 6 * s.cnt < s.cfg.pageSize) (hfa : s.fa = false) :
    step s = .next { s with msg := s.bootPageMessage s.cnt, cnt := s.cnt + 1,
                            trace := s.trace ++ [.send (sealed (bootPageBody s s.cnt))] } := by
  rw [step_of_alone hv hs hd nofun, State.behave_bpLoop hd, State.bpLoop_of_group hpage hfa,
    s.sendRecord_eq (State.bytes_bootPageMessage hwf hv s.cnt)]

/-- A round of GPS_LOOP with nothing scheduled (R126). -/
theorem step_gpsLoop_of_fragment {s : State} (hv : s.cfg.valid = true) (hs : s.sched = []) (hd : s.dstate = .gpsLoop)
    (hwf : s.msg.wf = true) (hlen : 7 * s.cnt + 7 ≤ s.cfg.N - 2) (hfa : s.fa = false)
    (hid : s.f.read (2 + 7 * s.cnt) ≠ 0x00) :
    step s = .next { s with msg := s.gpsMessage s.cnt, cnt := s.cnt + 1,
                            trace := s.trace ++ [.send (sealed (gpsBody s s.cnt))] } := by
  rw [step_of_alone hv hs hd nofun, State.behave_gpsLoop hd, State.gpsLoop_of_fragment hlen hfa hid,
    s.sendRecord_eq (State.bytes_gpsMessage hwf hv s.cnt)]

/-- Settles O45: below `NG` the page bound lets a group through, at `NG` it ends the loop. -/
theorem bootPageDispatchSendsEveryGroupInOrder : Obligations.BootPageDispatchSendsEveryGroupInOrder := by
  unfold Obligations.BootPageDispatchSendsEveryGroupInOrder
  intro s hinv hs hd hfa
  obtain ⟨_, hhold⟩ := hinv.unmasked hd rfl
  refine run_sendingDispatch hinv.valid hs hhold hd nofun (d := .bpLoop) nofun (State.behave_bpEnter hd) hinv.msg_wf
    (fun n m es hn hm => ?round) (fun m es => ?exit)
  case round =>
    have hpage : 6 * n < s.cfg.pageSize := by unfold Config.NG at hn; omega
    exact ⟨_, State.wf_bootPageMessage (s := s.inLoop .bpLoop m n es) hm n,
      step_bpLoop_of_group (s := s.inLoop .bpLoop m n es) hinv.valid hs rfl hm hpage hfa⟩
  case exit =>
    have hpage : s.cfg.pageSize ≤ 6 * s.cfg.NG := by unfold Config.NG; omega
    exact State.bpLoop_of_exit (s := s.inLoop .bpLoop m s.cfg.NG es) (.inl hpage)

/-- Settles O46: below `k` a whole fragment with an `id` is left, at `k` the payload ends or the `id` is 0. -/
theorem gpsDispatchStopsAtTheEndSentinel : Obligations.GpsDispatchStopsAtTheEndSentinel := by
  unfold Obligations.GpsDispatchStopsAtTheEndSentinel
  intro s k hinv hs hd hfa hk hids hend
  obtain ⟨_, hhold⟩ := hinv.unmasked hd rfl
  refine run_sendingDispatch hinv.valid hs hhold hd nofun (d := .gpsLoop) nofun (State.behave_gpsEnter hd) hinv.msg_wf
    (fun n m es hn hm => ?round) (fun m es => ?exit)
  case round =>
    have hlen : 7 * n + 7 ≤ s.cfg.N - 2 := by unfold Config.NF Config.PL at hk; omega
    exact ⟨_, State.wf_gpsMessage (s := s.inLoop .gpsLoop m n es) hm n,
      step_gpsLoop_of_fragment (s := s.inLoop .gpsLoop m n es) hinv.valid hs rfl hm hlen hfa (hids n hn)⟩
  case exit =>
    have hout : s.cfg.N - 2 < 7 * k + 7 ∨ s.f.read (2 + 7 * k) = 0x00 :=
      hend.imp_left fun hall => by unfold Config.NF Config.PL at hall; omega
    exact State.gpsLoop_of_exit (s := s.inLoop .gpsLoop m k es) (hout.imp_right .inr)

end Sys2Proof.Machine
